-- ==== Sys2Proof/Word.lean ====
section
/-! DEFINITION. The 32-bit word of the block and its plainest arithmetic (00_scope.md R13 to R15). -/
namespace Sys2Proof

/-- Every register of the block is 32 bits wide (R13); operators on words are unsigned and
truncate to 32 bits (R15). -/
abbrev Word := BitVec 32

/-- `BIT(n)`, the word `1 << n` (R14). -/
def bit (n : Nat) : Word := 1#32 <<< n

/-- `zext_32(lv)` of a Boolean: 0 is low, 1 is high (R15). -/
def boolWord (b : Bool) : Word := if b then 1#32 else 0#32

end Sys2Proof
end

