-- ==== Sys2Proof/Config.lean ====
section
/-! DEFINITION. What is fixed when the block is built (00_scope.md R6 to R13): the values the spec
decides are numerals; its OPEN parameters are constants without a body, so that no proof can see
their value and every theorem holds for all of them. -/
namespace Sys2Proof

/-- `NUM_BANKS` (R6, decision D1). -/
abbrev Config.numBanks : Nat := 2

/-- Base addresses of the composed machine (R12). -/
abbrev Config.cguBase : BitVec 32 := 0x10000000#32
/-- INTC base (R12). -/
abbrev Config.intcBase : BitVec 32 := 0x10001000#32
/-- TCU base (R12). -/
abbrev Config.tcuBase : BitVec 32 := 0x10002000#32
/-- CGU window size (R12). -/
abbrev Config.cguWindow : Nat := 0x100
/-- `INTC_WINDOW` (R12, decision D2). -/
abbrev Config.intcWindow : Nat := 0x1000
/-- TCU window size (R12). -/
abbrev Config.tcuWindow : Nat := 0x200

/-- The OPEN parameters an operation of the block reads: `TICK_INCREMENT` (R8) and
`TCU_IRQ_SRC[0..2]`, the bank-0 inputs that the TCU lines 0, 1 and 2 drive (R10). -/
structure Params where
  tickIncrement : Word
  irqSrc0 : Fin 32
  irqSrc1 : Fin 32
  irqSrc2 : Fin 32
deriving DecidableEq, Repr

/-- The ranges R8 and R10 give: a nonzero increment, three pairwise distinct indices. -/
abbrev Params.Ok (P : Params) : Prop :=
  P.tickIncrement ≠ 0#32 ∧ P.irqSrc0 ≠ P.irqSrc1 ∧ P.irqSrc0 ≠ P.irqSrc2 ∧ P.irqSrc1 ≠ P.irqSrc2

/-- `TICK_INCREMENT - 1`, OPEN in `0..0xFFFF_FFFE` (R8, decision D13). -/
opaque Config.tickIncrementLessOne : Fin 0xFFFFFFFF

/-- Which of the 32 inputs of bank 0 line 0 drives, OPEN (R10, decision D4). -/
opaque Config.irqPick0 : Fin 32
/-- Which of the 31 inputs left line 1 drives, counted upwards, OPEN (R10, decision D4). -/
opaque Config.irqPick1 : Fin 31
/-- Which of the 30 inputs left line 2 drives, counted upwards, OPEN (R10, decision D4). -/
opaque Config.irqPick2 : Fin 30

/-- The `n`-th number that is not `a`, counted from 0: how distinct indices are picked. -/
def Config.skip (a n : Nat) : Nat := if n < a then n else n + 1

/-- The parameters from the picks: every increment of R8 and every triple of R10 is the value for
some picks, and only those are. -/
def Config.paramsOf (inc : Fin 0xFFFFFFFF) (p0 : Fin 32) (p1 : Fin 31) (p2 : Fin 30) : Params :=
  let s0 := p0.val
  let s1 := Config.skip s0 p1.val
  let s2 := Config.skip (max s0 s1) (Config.skip (min s0 s1) p2.val)
  { tickIncrement := BitVec.ofNat 32 (inc.val + 1)
    irqSrc0 := Fin.ofNat 32 s0
    irqSrc1 := Fin.ofNat 32 s1
    irqSrc2 := Fin.ofNat 32 s2 }

/-- The parameters of this block. -/
def Config.params : Params :=
  Config.paramsOf Config.tickIncrementLessOne Config.irqPick0 Config.irqPick1 Config.irqPick2

/-- `CPU_IRQ_WIRING`, OPEN (R11, decision D5): the levels of the processor's interrupt inputs as a
function of the levels of `intc.irq_out[0]` and `intc.irq_out[1]`. No rule of the block reads it. -/
opaque Config.cpuIrqWiring : Bool → Bool → List Bool

end Sys2Proof
end

