-- ==== Sys2Proof/Syntax.lean ====
section
/-! DEFINITION. The operations of the block (30_encoding.md R70 to R72): one constructor per row of
spec/opcode_table.json, and the operand types they carry. The block runs no instruction stream
(00_scope.md R2): an operation stands where a processor has an instruction. -/
namespace Sys2Proof

/-- An INTC bank `b`, `0 <= b < NUM_BANKS` (R6). -/
inductive Bank | b0 | b1
deriving DecidableEq, Repr

/-- A TCU channel of `CH = {0, .., 7, 15}`; `ost` is channel 15, the OS timer (R7). -/
inductive Chan | c0 | c1 | c2 | c3 | c4 | c5 | c6 | c7 | ost
deriving DecidableEq, Repr

/-- A TCU output line `k` in `{0, 1, 2}` (R36). -/
inductive Line | l0 | l1 | l2
deriving DecidableEq, Repr

/-- The access size `SZ`: 1, 2, 4 or 8 bytes (R71). -/
inductive Size | byte | half | word | dword
deriving DecidableEq, Repr

/-- The direction `W` of a bus access, with the data word that only a write uses (R70, R71). -/
inductive Access | read | write (data : Word)
deriving DecidableEq, Repr

/-- An operation as it arrives, the pair `(L, DATA)` of a 20-bit label and a data word (R70). -/
structure Operation where
  label : BitVec 20
  data : Word
deriving DecidableEq, Repr

/-- The operations, in the order of spec/opcode_table.json. -/
inductive Instr
  /-- `tick 0` (R187). -/
  | tick0
  /-- `tick 1` (R187). -/
  | tick1
  /-- `tick 2` (R187). -/
  | tick2
  /-- `tick 3` (R187). -/
  | tick3
  /-- `tick 4` (R187). -/
  | tick4
  /-- `tick 5` (R187). -/
  | tick5
  /-- `tick 6` (R187). -/
  | tick6
  /-- `tick 7` (R187). -/
  | tick7
  /-- `tick 15` (R187). -/
  | tick15
  /-- `req idx, lv` (R101). -/
  | req (lv : Bool) (idx : BitVec 8)
  /-- `reset` (R230). -/
  | reset
  /-- Any EVT label that names no event (R78 a), with `EK` and the 16 bits below it. -/
  | reservedEvent (ek : BitVec 3) (payload : BitVec 16)
  /-- Read in the CGU window (R52). -/
  | rdCgu (sz : Size) (off : BitVec 12)
  /-- Write in the CGU window (R52). -/
  | wrCgu (sz : Size) (off : BitVec 12) (data : Word)
  /-- INTC access of an unsupported size or alignment (R55). -/
  | intcUnsupported (acc : Access) (sz : Size) (off : BitVec 12)
  /-- TCU access of an unsupported size or alignment (R55). -/
  | tcuUnsupported (acc : Access) (sz : Size) (off : BitVec 12)
  /-- R102. -/
  | rdIntcSource (b : Bank)
  /-- R103. -/
  | wrIntcSource (b : Bank) (data : Word)
  /-- R104. -/
  | rdIntcMask (b : Bank)
  /-- R105. -/
  | wrIntcMask (b : Bank) (data : Word)
  /-- R108. -/
  | rdIntcMaskSet (b : Bank)
  /-- R106. -/
  | wrIntcMaskSet (b : Bank) (data : Word)
  /-- R108. -/
  | rdIntcMaskClr (b : Bank)
  /-- R107. -/
  | wrIntcMaskClr (b : Bank) (data : Word)
  /-- R109. -/
  | rdIntcPending (b : Bank)
  /-- R110. -/
  | wrIntcPending (b : Bank) (data : Word)
  /-- Reserved offset `0x14` of a bank (R111). -/
  | intcReserved14 (acc : Access) (b : Bank)
  /-- Reserved offset `0x18` of a bank (R111). -/
  | intcReserved18 (acc : Access) (b : Bank)
  /-- Reserved offset `0x1c` of a bank (R111). -/
  | intcReserved1c (acc : Access) (b : Bank)
  /-- INTC access to a bank that does not exist (R112). -/
  | intcBankRange (acc : Access) (off : BitVec 12)
  /-- R163. -/
  | rdTcuEnable
  /-- R151. -/
  | wrTcuEnable (data : Word)
  /-- R167. -/
  | rdTcuEnableSet
  /-- R152. -/
  | wrTcuEnableSet (data : Word)
  /-- R167. -/
  | rdTcuEnableClr
  /-- R153. -/
  | wrTcuEnableClr (data : Word)
  /-- R164. -/
  | rdTcuStop
  /-- R154. -/
  | wrTcuStop (data : Word)
  /-- R165. -/
  | rdTcuFlag
  /-- R157. -/
  | wrTcuFlag (data : Word)
  /-- R167. -/
  | rdTcuFlagSet
  /-- R158. -/
  | wrTcuFlagSet (data : Word)
  /-- R167. -/
  | rdTcuFlagClr
  /-- R159. -/
  | wrTcuFlagClr (data : Word)
  /-- R167. -/
  | rdTcuStopSet
  /-- R155. -/
  | wrTcuStopSet (data : Word)
  /-- R166. -/
  | rdTcuMask
  /-- R160. -/
  | wrTcuMask (data : Word)
  /-- R167. -/
  | rdTcuMaskSet
  /-- R161. -/
  | wrTcuMaskSet (data : Word)
  /-- R167. -/
  | rdTcuMaskClr
  /-- R162. -/
  | wrTcuMaskClr (data : Word)
  /-- R167. -/
  | rdTcuStopClr
  /-- R156. -/
  | wrTcuStopClr (data : Word)
  /-- R131, channel 0. -/
  | rdTcuFull0
  /-- R134, channel 0. -/
  | wrTcuFull0 (data : Word)
  /-- R132, channel 0. -/
  | rdTcuHalf0
  /-- R135, channel 0. -/
  | wrTcuHalf0 (data : Word)
  /-- R130, channel 0. -/
  | rdTcuCount0
  /-- R136, channel 0. -/
  | wrTcuCount0 (data : Word)
  /-- R133, channel 0. -/
  | rdTcuCtrl0
  /-- R137, channel 0. -/
  | wrTcuCtrl0 (data : Word)
  /-- R131, channel 1. -/
  | rdTcuFull1
  /-- R134, channel 1. -/
  | wrTcuFull1 (data : Word)
  /-- R132, channel 1. -/
  | rdTcuHalf1
  /-- R135, channel 1. -/
  | wrTcuHalf1 (data : Word)
  /-- R130, channel 1. -/
  | rdTcuCount1
  /-- R136, channel 1. -/
  | wrTcuCount1 (data : Word)
  /-- R133, channel 1. -/
  | rdTcuCtrl1
  /-- R137, channel 1. -/
  | wrTcuCtrl1 (data : Word)
  /-- R131, channel 2. -/
  | rdTcuFull2
  /-- R134, channel 2. -/
  | wrTcuFull2 (data : Word)
  /-- R132, channel 2. -/
  | rdTcuHalf2
  /-- R135, channel 2. -/
  | wrTcuHalf2 (data : Word)
  /-- R130, channel 2. -/
  | rdTcuCount2
  /-- R136, channel 2. -/
  | wrTcuCount2 (data : Word)
  /-- R133, channel 2. -/
  | rdTcuCtrl2
  /-- R137, channel 2. -/
  | wrTcuCtrl2 (data : Word)
  /-- R131, channel 3. -/
  | rdTcuFull3
  /-- R134, channel 3. -/
  | wrTcuFull3 (data : Word)
  /-- R132, channel 3. -/
  | rdTcuHalf3
  /-- R135, channel 3. -/
  | wrTcuHalf3 (data : Word)
  /-- R130, channel 3. -/
  | rdTcuCount3
  /-- R136, channel 3. -/
  | wrTcuCount3 (data : Word)
  /-- R133, channel 3. -/
  | rdTcuCtrl3
  /-- R137, channel 3. -/
  | wrTcuCtrl3 (data : Word)
  /-- R131, channel 4. -/
  | rdTcuFull4
  /-- R134, channel 4. -/
  | wrTcuFull4 (data : Word)
  /-- R132, channel 4. -/
  | rdTcuHalf4
  /-- R135, channel 4. -/
  | wrTcuHalf4 (data : Word)
  /-- R130, channel 4. -/
  | rdTcuCount4
  /-- R136, channel 4. -/
  | wrTcuCount4 (data : Word)
  /-- R133, channel 4. -/
  | rdTcuCtrl4
  /-- R137, channel 4. -/
  | wrTcuCtrl4 (data : Word)
  /-- R131, channel 5. -/
  | rdTcuFull5
  /-- R134, channel 5. -/
  | wrTcuFull5 (data : Word)
  /-- R132, channel 5. -/
  | rdTcuHalf5
  /-- R135, channel 5. -/
  | wrTcuHalf5 (data : Word)
  /-- R130, channel 5. -/
  | rdTcuCount5
  /-- R136, channel 5. -/
  | wrTcuCount5 (data : Word)
  /-- R133, channel 5. -/
  | rdTcuCtrl5
  /-- R137, channel 5. -/
  | wrTcuCtrl5 (data : Word)
  /-- R131, channel 6. -/
  | rdTcuFull6
  /-- R134, channel 6. -/
  | wrTcuFull6 (data : Word)
  /-- R132, channel 6. -/
  | rdTcuHalf6
  /-- R135, channel 6. -/
  | wrTcuHalf6 (data : Word)
  /-- R130, channel 6. -/
  | rdTcuCount6
  /-- R136, channel 6. -/
  | wrTcuCount6 (data : Word)
  /-- R133, channel 6. -/
  | rdTcuCtrl6
  /-- R137, channel 6. -/
  | wrTcuCtrl6 (data : Word)
  /-- R131, channel 7. -/
  | rdTcuFull7
  /-- R134, channel 7. -/
  | wrTcuFull7 (data : Word)
  /-- R132, channel 7. -/
  | rdTcuHalf7
  /-- R135, channel 7. -/
  | wrTcuHalf7 (data : Word)
  /-- R130, channel 7. -/
  | rdTcuCount7
  /-- R136, channel 7. -/
  | wrTcuCount7 (data : Word)
  /-- R133, channel 7. -/
  | rdTcuCtrl7
  /-- R137, channel 7. -/
  | wrTcuCtrl7 (data : Word)
  /-- R131, channel 15. -/
  | rdTcuFull15
  /-- R134, channel 15. -/
  | wrTcuFull15 (data : Word)
  /-- R132, channel 15. -/
  | rdTcuHalf15
  /-- R135, channel 15. -/
  | wrTcuHalf15 (data : Word)
  /-- R130, channel 15. -/
  | rdTcuCount15
  /-- R136, channel 15. -/
  | wrTcuCount15 (data : Word)
  /-- R133, channel 15. -/
  | rdTcuCtrl15
  /-- R137, channel 15. -/
  | wrTcuCtrl15 (data : Word)
  /-- TCU offset that names no register (R138). -/
  | tcuReserved (acc : Access) (off : BitVec 12)
  /-- Bus address in no window (R64, R78 b). -/
  | notThisBlock (acc : Access) (sz : Size) (unit : BitVec 4) (off : BitVec 12)
deriving DecidableEq, Repr

end Sys2Proof
end

