-- ==== Sys2Proof/WellFormed.lean ====
section
/-! DEFINITION. Which operations an encoding can name (30_encoding.md R77, R78): the checks on the
fields of the catch-all rows. Every other row is well-formed by its type. -/
namespace Sys2Proof

/-- The offset is a multiple of 4 (20_memory.md R54). -/
def isAligned (off : BitVec 12) : Bool := off.extractLsb' 0 2 == 0#2

/-- Only a 4-byte access at a 4-aligned offset is a register access (R54). -/
def isRegisterAccess (sz : Size) (off : BitVec 12) : Bool := decide (sz = .word) && isAligned off

/-- An EVT label that names no event: `EK` in 011..111, a nonzero must-be-zero field, or a TICK of
channel 8 to 14 (R78 a). -/
def isReservedEvent (ek : BitVec 3) (payload : BitVec 16) : Bool :=
  if ek = 0#3 then decide (8 ≤ payload.toNat ∧ payload.toNat ≠ 15)
  else if ek = 1#3 then decide (0x200 ≤ payload.toNat)
  else if ek = 2#3 then payload != 0#16
  else true

/-- A TCU offset that holds no register: `0x000` to `0x00c`, `0x0c0` to `0x12f`, `0x140` to `0x1ff`
(41_tcu_channel.md R138). -/
def isTcuReservedOffset (off : BitVec 12) : Bool :=
  decide (off.toNat < 0x10 ∨ (0xc0 ≤ off.toNat ∧ off.toNat < 0x130) ∨
    (0x140 ≤ off.toNat ∧ off.toNat < 0x200))

/-- A unit and offset in no window of the address map (20_memory.md R53, R64). -/
def isOutsideWindows (unit : BitVec 4) (off : BitVec 12) : Bool :=
  decide ((unit = 0#4 ∧ 0x100 ≤ off.toNat) ∨ (unit = 2#4 ∧ 0x200 ≤ off.toNat) ∨ 3 ≤ unit.toNat)

/-- The operation is one that an encoding names. -/
def Instr.wellFormed (i : Instr) : Bool :=
  match i with
  | .reservedEvent ek payload => isReservedEvent ek payload
  | .rdCgu _ off => decide (off.toNat < 0x100)
  | .wrCgu _ off _ => decide (off.toNat < 0x100)
  | .intcUnsupported _ sz off => !isRegisterAccess sz off
  | .tcuUnsupported _ sz off => decide (off.toNat < 0x200) && !isRegisterAccess sz off
  | .intcBankRange _ off => isAligned off && decide (Config.numBanks ≤ (off.extractLsb' 5 7).toNat)
  | .tcuReserved _ off => isAligned off && isTcuReservedOffset off
  | .notThisBlock _ _ unit off => isOutsideWindows unit off
  | .tick0 | .tick1 | .tick2 | .tick3 | .tick4 | .tick5 | .tick6 | .tick7 | .tick15
  | .req _ _ | .reset
  | .rdIntcSource _ | .wrIntcSource _ _ | .rdIntcMask _ | .wrIntcMask _ _ | .rdIntcMaskSet _ | .wrIntcMaskSet _ _ | .rdIntcMaskClr _ | .wrIntcMaskClr _ _ | .rdIntcPending _ | .wrIntcPending _ _
  | .intcReserved14 _ _ | .intcReserved18 _ _ | .intcReserved1c _ _
  | .rdTcuEnable | .wrTcuEnable _ | .rdTcuEnableSet | .wrTcuEnableSet _ | .rdTcuEnableClr | .wrTcuEnableClr _
  | .rdTcuStop | .wrTcuStop _ | .rdTcuFlag | .wrTcuFlag _ | .rdTcuFlagSet | .wrTcuFlagSet _
  | .rdTcuFlagClr | .wrTcuFlagClr _ | .rdTcuStopSet | .wrTcuStopSet _ | .rdTcuMask | .wrTcuMask _
  | .rdTcuMaskSet | .wrTcuMaskSet _ | .rdTcuMaskClr | .wrTcuMaskClr _ | .rdTcuStopClr | .wrTcuStopClr _
  | .rdTcuFull0 | .wrTcuFull0 _ | .rdTcuHalf0 | .wrTcuHalf0 _ | .rdTcuCount0 | .wrTcuCount0 _ | .rdTcuCtrl0 | .wrTcuCtrl0 _
  | .rdTcuFull1 | .wrTcuFull1 _ | .rdTcuHalf1 | .wrTcuHalf1 _ | .rdTcuCount1 | .wrTcuCount1 _ | .rdTcuCtrl1 | .wrTcuCtrl1 _
  | .rdTcuFull2 | .wrTcuFull2 _ | .rdTcuHalf2 | .wrTcuHalf2 _ | .rdTcuCount2 | .wrTcuCount2 _ | .rdTcuCtrl2 | .wrTcuCtrl2 _
  | .rdTcuFull3 | .wrTcuFull3 _ | .rdTcuHalf3 | .wrTcuHalf3 _ | .rdTcuCount3 | .wrTcuCount3 _ | .rdTcuCtrl3 | .wrTcuCtrl3 _
  | .rdTcuFull4 | .wrTcuFull4 _ | .rdTcuHalf4 | .wrTcuHalf4 _ | .rdTcuCount4 | .wrTcuCount4 _ | .rdTcuCtrl4 | .wrTcuCtrl4 _
  | .rdTcuFull5 | .wrTcuFull5 _ | .rdTcuHalf5 | .wrTcuHalf5 _ | .rdTcuCount5 | .wrTcuCount5 _ | .rdTcuCtrl5 | .wrTcuCtrl5 _
  | .rdTcuFull6 | .wrTcuFull6 _ | .rdTcuHalf6 | .wrTcuHalf6 _ | .rdTcuCount6 | .wrTcuCount6 _ | .rdTcuCtrl6 | .wrTcuCtrl6 _
  | .rdTcuFull7 | .wrTcuFull7 _ | .rdTcuHalf7 | .wrTcuHalf7 _ | .rdTcuCount7 | .wrTcuCount7 _ | .rdTcuCtrl7 | .wrTcuCtrl7 _
  | .rdTcuFull15 | .wrTcuFull15 _ | .rdTcuHalf15 | .wrTcuHalf15 _ | .rdTcuCount15 | .wrTcuCount15 _ | .rdTcuCtrl15 | .wrTcuCtrl15 _ => true

end Sys2Proof
end

