-- ==== Sys2Proof/Decode.lean ====
section
/-! DEFINITION. From labels to operations and back (30_encoding.md R70 to R78), and from physical
addresses to labels (R71, 20_memory.md R51). -/
namespace Sys2Proof

/-! Fields of the encoding -/

/-- `SZ`: 00, 01, 10, 11 for 1, 2, 4, 8 bytes (R71). -/
def Size.code : Size → BitVec 2
  | .byte => 0#2 | .half => 1#2 | .word => 2#2 | .dword => 3#2

/-- The size a code of `SZ` names (R71). -/
def Size.ofCode (z : BitVec 2) : Size :=
  if z = 0#2 then .byte else if z = 1#2 then .half else if z = 2#2 then .word else .dword

/-- The number of bytes of a size (R71). -/
def Size.bytes : Size → Nat
  | .byte => 1 | .half => 2 | .word => 4 | .dword => 8

/-- The index of a channel in `CH` (00_scope.md R7). -/
def Chan.index : Chan → Nat
  | .c0 => 0
  | .c1 => 1
  | .c2 => 2
  | .c3 => 3
  | .c4 => 4
  | .c5 => 5
  | .c6 => 6
  | .c7 => 7
  | .ost => 15

/-- The channel of an index, none for an index outside `CH` (R7). -/
def Chan.ofIndex (n : Nat) : Option Chan :=
  if n = 0 then some .c0 else
  if n = 1 then some .c1 else
  if n = 2 then some .c2 else
  if n = 3 then some .c3 else
  if n = 4 then some .c4 else
  if n = 5 then some .c5 else
  if n = 6 then some .c6 else
  if n = 7 then some .c7 else
  if n = 15 then some .ost else
  none

/-- All of `CH`, in rising order (R7). -/
def Chan.all : List Chan := [.c0, .c1, .c2, .c3, .c4, .c5, .c6, .c7, .ost]

/-- The number of a bank (00_scope.md R6). -/
def Bank.index : Bank → Nat
  | .b0 => 0 | .b1 => 1

/-- The bank of a number, none for a number at or past `NUM_BANKS` (R6, R73). -/
def Bank.ofIndex (n : Nat) : Option Bank :=
  if n = 0 then some .b0 else if n = 1 then some .b1 else none

/-- `W` of a direction (R71). -/
def Access.isWrite : Access → Bool
  | .read => false | .write _ => true

/-- The data word of a direction: a read carries none, and it is written as 0 (R70). -/
def Access.data : Access → Word
  | .read => 0#32 | .write v => v

/-- The direction that bit `W` and the data word say (R70, R71). -/
def Access.ofBits (w : Bool) (data : Word) : Access := if w then .write data else .read

/-! Selection of a channel's operation (R74) -/

/-- `tick c` (R72). -/
def Instr.tickAt : Chan → Instr
  | .c0 => .tick0
  | .c1 => .tick1
  | .c2 => .tick2
  | .c3 => .tick3
  | .c4 => .tick4
  | .c5 => .tick5
  | .c6 => .tick6
  | .c7 => .tick7
  | .ost => .tick15

/-- Read of the full register of channel `c` (R74). -/
def Instr.rdTcuFullAt : Chan → Instr
  | .c0 => .rdTcuFull0
  | .c1 => .rdTcuFull1
  | .c2 => .rdTcuFull2
  | .c3 => .rdTcuFull3
  | .c4 => .rdTcuFull4
  | .c5 => .rdTcuFull5
  | .c6 => .rdTcuFull6
  | .c7 => .rdTcuFull7
  | .ost => .rdTcuFull15

/-- Write of the full register of channel `c` (R74). -/
def Instr.wrTcuFullAt (c : Chan) (data : Word) : Instr :=
  match c with
  | .c0 => .wrTcuFull0 data
  | .c1 => .wrTcuFull1 data
  | .c2 => .wrTcuFull2 data
  | .c3 => .wrTcuFull3 data
  | .c4 => .wrTcuFull4 data
  | .c5 => .wrTcuFull5 data
  | .c6 => .wrTcuFull6 data
  | .c7 => .wrTcuFull7 data
  | .ost => .wrTcuFull15 data

/-- Read of the half register of channel `c` (R74). -/
def Instr.rdTcuHalfAt : Chan → Instr
  | .c0 => .rdTcuHalf0
  | .c1 => .rdTcuHalf1
  | .c2 => .rdTcuHalf2
  | .c3 => .rdTcuHalf3
  | .c4 => .rdTcuHalf4
  | .c5 => .rdTcuHalf5
  | .c6 => .rdTcuHalf6
  | .c7 => .rdTcuHalf7
  | .ost => .rdTcuHalf15

/-- Write of the half register of channel `c` (R74). -/
def Instr.wrTcuHalfAt (c : Chan) (data : Word) : Instr :=
  match c with
  | .c0 => .wrTcuHalf0 data
  | .c1 => .wrTcuHalf1 data
  | .c2 => .wrTcuHalf2 data
  | .c3 => .wrTcuHalf3 data
  | .c4 => .wrTcuHalf4 data
  | .c5 => .wrTcuHalf5 data
  | .c6 => .wrTcuHalf6 data
  | .c7 => .wrTcuHalf7 data
  | .ost => .wrTcuHalf15 data

/-- Read of the count register of channel `c` (R74). -/
def Instr.rdTcuCountAt : Chan → Instr
  | .c0 => .rdTcuCount0
  | .c1 => .rdTcuCount1
  | .c2 => .rdTcuCount2
  | .c3 => .rdTcuCount3
  | .c4 => .rdTcuCount4
  | .c5 => .rdTcuCount5
  | .c6 => .rdTcuCount6
  | .c7 => .rdTcuCount7
  | .ost => .rdTcuCount15

/-- Write of the count register of channel `c` (R74). -/
def Instr.wrTcuCountAt (c : Chan) (data : Word) : Instr :=
  match c with
  | .c0 => .wrTcuCount0 data
  | .c1 => .wrTcuCount1 data
  | .c2 => .wrTcuCount2 data
  | .c3 => .wrTcuCount3 data
  | .c4 => .wrTcuCount4 data
  | .c5 => .wrTcuCount5 data
  | .c6 => .wrTcuCount6 data
  | .c7 => .wrTcuCount7 data
  | .ost => .wrTcuCount15 data

/-- Read of the ctrl register of channel `c` (R74). -/
def Instr.rdTcuCtrlAt : Chan → Instr
  | .c0 => .rdTcuCtrl0
  | .c1 => .rdTcuCtrl1
  | .c2 => .rdTcuCtrl2
  | .c3 => .rdTcuCtrl3
  | .c4 => .rdTcuCtrl4
  | .c5 => .rdTcuCtrl5
  | .c6 => .rdTcuCtrl6
  | .c7 => .rdTcuCtrl7
  | .ost => .rdTcuCtrl15

/-- Write of the ctrl register of channel `c` (R74). -/
def Instr.wrTcuCtrlAt (c : Chan) (data : Word) : Instr :=
  match c with
  | .c0 => .wrTcuCtrl0 data
  | .c1 => .wrTcuCtrl1 data
  | .c2 => .wrTcuCtrl2 data
  | .c3 => .wrTcuCtrl3 data
  | .c4 => .wrTcuCtrl4 data
  | .c5 => .wrTcuCtrl5 data
  | .c6 => .wrTcuCtrl6 data
  | .c7 => .wrTcuCtrl7 data
  | .ost => .wrTcuCtrl15 data

/-- The twelve global registers of the TCU (10_state.md R43). -/
inductive TcuGlobalReg
  | enable | enableSet | enableClr | stop | flag | flagSet | flagClr | stopSet | mask | maskSet | maskClr | stopClr
deriving DecidableEq, Repr

/-- The offset of a global register (R43). -/
def TcuGlobalReg.offset : TcuGlobalReg → Nat
  | .enable => 0x10
  | .enableSet => 0x14
  | .enableClr => 0x18
  | .stop => 0x1c
  | .flag => 0x20
  | .flagSet => 0x24
  | .flagClr => 0x28
  | .stopSet => 0x2c
  | .mask => 0x30
  | .maskSet => 0x34
  | .maskClr => 0x38
  | .stopClr => 0x3c

/-- The twelve global registers, in the order of their offsets (R43). -/
def TcuGlobalReg.all : List TcuGlobalReg :=
  [.enable, .enableSet, .enableClr, .stop, .flag, .flagSet,
   .flagClr, .stopSet, .mask, .maskSet, .maskClr, .stopClr]

/-- The global register at an offset, none where there is none (R43, R74). -/
def TcuGlobalReg.ofOffset (n : Nat) : Option TcuGlobalReg :=
  TcuGlobalReg.all.find? fun g => g.offset == n

/-- Read of a global register (R43). -/
def Instr.rdTcuGlobal : TcuGlobalReg → Instr
  | .enable => .rdTcuEnable
  | .enableSet => .rdTcuEnableSet
  | .enableClr => .rdTcuEnableClr
  | .stop => .rdTcuStop
  | .flag => .rdTcuFlag
  | .flagSet => .rdTcuFlagSet
  | .flagClr => .rdTcuFlagClr
  | .stopSet => .rdTcuStopSet
  | .mask => .rdTcuMask
  | .maskSet => .rdTcuMaskSet
  | .maskClr => .rdTcuMaskClr
  | .stopClr => .rdTcuStopClr

/-- Write of a global register (R43). -/
def Instr.wrTcuGlobal (g : TcuGlobalReg) (v : Word) : Instr :=
  match g with
  | .enable => .wrTcuEnable v
  | .enableSet => .wrTcuEnableSet v
  | .enableClr => .wrTcuEnableClr v
  | .stop => .wrTcuStop v
  | .flag => .wrTcuFlag v
  | .flagSet => .wrTcuFlagSet v
  | .flagClr => .wrTcuFlagClr v
  | .stopSet => .wrTcuStopSet v
  | .mask => .wrTcuMask v
  | .maskSet => .wrTcuMaskSet v
  | .maskClr => .wrTcuMaskClr v
  | .stopClr => .wrTcuStopClr v

/-- Read of register `OFF[3:0]` of channel `c`: full, half, count, ctrl at 0x0, 0x4, 0x8, 0xc (R74). -/
def Instr.rdTcuAt (c : Chan) (r : BitVec 4) : Instr :=
  if r = 0x0#4 then Instr.rdTcuFullAt c else
  if r = 0x4#4 then Instr.rdTcuHalfAt c else
  if r = 0x8#4 then Instr.rdTcuCountAt c else
  Instr.rdTcuCtrlAt c

/-- Write of register `OFF[3:0]` of channel `c` (R74). -/
def Instr.wrTcuAt (c : Chan) (r : BitVec 4) (v : Word) : Instr :=
  if r = 0x0#4 then Instr.wrTcuFullAt c v else
  if r = 0x4#4 then Instr.wrTcuHalfAt c v else
  if r = 0x8#4 then Instr.wrTcuCountAt c v else
  Instr.wrTcuCtrlAt c v

/-! Decode, in the order of R77 -/

/-- An EVT label: `EK` and the 16 bits below it (R72, R77). -/
def decodeEvent (ek : BitVec 3) (payload : BitVec 16) : Instr :=
  if ek = 0#3 then
    match Chan.ofIndex payload.toNat with
    | some c => Instr.tickAt c
    | none => .reservedEvent ek payload
  else if ek = 1#3 ∧ payload.toNat < 0x200 then
    .req (payload.getLsbD 8) (payload.extractLsb' 0 8)
  else if ek = 2#3 ∧ payload = 0#16 then .reset
  else .reservedEvent ek payload

/-- Register `OFF[4:0]` of bank `b` (R73, R77). -/
def decodeIntcReg (acc : Access) (b : Bank) (r : BitVec 5) : Instr :=
  if r = 0x00#5 then (match acc with | .read => .rdIntcSource b | .write v => .wrIntcSource b v) else
  if r = 0x04#5 then (match acc with | .read => .rdIntcMask b | .write v => .wrIntcMask b v) else
  if r = 0x08#5 then (match acc with | .read => .rdIntcMaskSet b | .write v => .wrIntcMaskSet b v) else
  if r = 0x0c#5 then (match acc with | .read => .rdIntcMaskClr b | .write v => .wrIntcMaskClr b v) else
  if r = 0x10#5 then (match acc with | .read => .rdIntcPending b | .write v => .wrIntcPending b v) else
  if r = 0x14#5 then .intcReserved14 acc b else
  if r = 0x18#5 then .intcReserved18 acc b else
  .intcReserved1c acc b

/-- A register access in the INTC window: bank `OFF[11:5]`, register `OFF[4:0]` (R73, R77). -/
def decodeIntc (acc : Access) (off : BitVec 12) : Instr :=
  match Bank.ofIndex (off.extractLsb' 5 7).toNat with
  | none => .intcBankRange acc off
  | some b => decodeIntcReg acc b (off.extractLsb' 0 5)

/-- The channel of a per-channel offset, `c = OFF[8:4] - 4` for `0x40 <= OFF < 0x140` and `c` in CH; none for
every other offset (R74). -/
def chanOfOffset (off : BitVec 12) : Option Chan :=
  if 0x40 ≤ off.toNat ∧ off.toNat < 0x140 then Chan.ofIndex ((off.extractLsb' 4 5).toNat - 4) else none

/-- A read of a TCU offset below `0x200` (R74, R77). -/
def decodeTcuRead (off : BitVec 12) : Instr :=
  match TcuGlobalReg.ofOffset off.toNat, chanOfOffset off with
  | some g, _ => Instr.rdTcuGlobal g
  | none, some c => Instr.rdTcuAt c (off.extractLsb' 0 4)
  | none, none => .tcuReserved .read off

/-- A write of a TCU offset below `0x200` (R74, R77). -/
def decodeTcuWrite (off : BitVec 12) (v : Word) : Instr :=
  match TcuGlobalReg.ofOffset off.toNat, chanOfOffset off with
  | some g, _ => Instr.wrTcuGlobal g v
  | none, some c => Instr.wrTcuAt c (off.extractLsb' 0 4) v
  | none, none => .tcuReserved (.write v) off

/-- A register access in the TCU window (R74, R77). -/
def decodeTcu (acc : Access) (off : BitVec 12) : Instr :=
  match acc with
  | .read => decodeTcuRead off
  | .write v => decodeTcuWrite off v

/-- A BUS label: direction, size, unit and offset (R71, R77). -/
def decodeBus (acc : Access) (sz : Size) (unit : BitVec 4) (off : BitVec 12) : Instr :=
  if unit = 0#4 ∧ off.toNat < Config.cguWindow then
    match acc with
    | .read => .rdCgu sz off
    | .write v => .wrCgu sz off v
  else if unit = 1#4 then
    if isRegisterAccess sz off then decodeIntc acc off else .intcUnsupported acc sz off
  else if unit = 2#4 ∧ off.toNat < Config.tcuWindow then
    if isRegisterAccess sz off then decodeTcu acc off else .tcuUnsupported acc sz off
  else .notThisBlock acc sz unit off

/-- `decode`, total over all labels (R77): `L[19]` tells the two formats apart (R70). -/
def decode (op : Operation) : Instr :=
  if op.label.getLsbD 19 then
    decodeEvent (op.label.extractLsb' 16 3) (op.label.extractLsb' 0 16)
  else
    decodeBus (Access.ofBits (op.label.getLsbD 18) op.data) (Size.ofCode (op.label.extractLsb' 16 2))
      (op.label.extractLsb' 12 4) (op.label.extractLsb' 0 12)

/-! Encode -/

/-- The label of a bus access, `(W << 18) | (SZ << 16) | (UNIT << 12) | OFF` with `L[19] = 0`; the
fields do not overlap, so the sum is their OR (R71). -/
def busLabel (w : Bool) (sz : Size) (unit : BitVec 4) (off : BitVec 12) : BitVec 20 :=
  BitVec.ofNat 20
    (w.toNat * 0x40000 + sz.code.toNat * 0x10000 + unit.toNat * 0x1000 + off.toNat)

/-- The label of an event, `L[19] = 1`, `EK` in bits 18:16 (R72). -/
def eventLabel (ek : BitVec 3) (payload : BitVec 16) : BitVec 20 :=
  BitVec.ofNat 20 (0x80000 + ek.toNat * 0x10000 + payload.toNat)

/-- A bus operation (R70, R71). -/
def busOp (acc : Access) (sz : Size) (unit : BitVec 4) (off : BitVec 12) : Operation :=
  { label := busLabel acc.isWrite sz unit off, data := acc.data }

/-- An event, with its data word written as 0 (R70, R72). -/
def eventOp (ek : BitVec 3) (payload : BitVec 16) : Operation :=
  { label := eventLabel ek payload, data := 0#32 }

/-- A tick: `0x8_0000 | C` (R72). -/
def tickOp (c : Chan) : Operation := eventOp 0#3 (BitVec.ofNat 16 c.index)

/-- A request: `0x9_0000 | (LV << 8) | IDX` (R72). -/
def reqOp (lv : Bool) (idx : BitVec 8) : Operation :=
  eventOp 1#3 (BitVec.ofNat 16 (lv.toNat * 0x100 + idx.toNat))

/-- A register access of the INTC, bank `b` at `0x20*b` (10_state.md R42, R73). -/
def intcOp (acc : Access) (b : Bank) (r : Nat) : Operation :=
  busOp acc .word 1#4 (BitVec.ofNat 12 (0x20 * b.index + r))

/-- A register access of the TCU (10_state.md R43). -/
def tcuOp (acc : Access) (off : BitVec 12) : Operation := busOp acc .word 2#4 off

/-- A register access of channel `c`, whose block is at `0x40 + 0x10*c` (10_state.md R43, R74). -/
def chanOp (acc : Access) (c : Chan) (r : Nat) : Operation :=
  tcuOp acc (BitVec.ofNat 12 (0x40 + 0x10 * c.index + r))

/-- The label and data word of an operation (R70 to R74). -/
def encode : Instr → Operation
  | .tick0 => tickOp .c0
  | .tick1 => tickOp .c1
  | .tick2 => tickOp .c2
  | .tick3 => tickOp .c3
  | .tick4 => tickOp .c4
  | .tick5 => tickOp .c5
  | .tick6 => tickOp .c6
  | .tick7 => tickOp .c7
  | .tick15 => tickOp .ost
  | .req lv idx => reqOp lv idx
  | .reset => eventOp 2#3 0#16
  | .reservedEvent ek payload => eventOp ek payload
  | .rdCgu sz off => busOp .read sz 0#4 off
  | .wrCgu sz off v => busOp (.write v) sz 0#4 off
  | .intcUnsupported acc sz off => busOp acc sz 1#4 off
  | .tcuUnsupported acc sz off => busOp acc sz 2#4 off
  | .rdIntcSource b => intcOp .read b 0x00
  | .wrIntcSource b v => intcOp (.write v) b 0x00
  | .rdIntcMask b => intcOp .read b 0x04
  | .wrIntcMask b v => intcOp (.write v) b 0x04
  | .rdIntcMaskSet b => intcOp .read b 0x08
  | .wrIntcMaskSet b v => intcOp (.write v) b 0x08
  | .rdIntcMaskClr b => intcOp .read b 0x0c
  | .wrIntcMaskClr b v => intcOp (.write v) b 0x0c
  | .rdIntcPending b => intcOp .read b 0x10
  | .wrIntcPending b v => intcOp (.write v) b 0x10
  | .intcReserved14 acc b => intcOp acc b 0x14
  | .intcReserved18 acc b => intcOp acc b 0x18
  | .intcReserved1c acc b => intcOp acc b 0x1c
  | .intcBankRange acc off => busOp acc .word 1#4 off
  | .rdTcuEnable => tcuOp .read 0x010#12
  | .wrTcuEnable v => tcuOp (.write v) 0x010#12
  | .rdTcuEnableSet => tcuOp .read 0x014#12
  | .wrTcuEnableSet v => tcuOp (.write v) 0x014#12
  | .rdTcuEnableClr => tcuOp .read 0x018#12
  | .wrTcuEnableClr v => tcuOp (.write v) 0x018#12
  | .rdTcuStop => tcuOp .read 0x01c#12
  | .wrTcuStop v => tcuOp (.write v) 0x01c#12
  | .rdTcuFlag => tcuOp .read 0x020#12
  | .wrTcuFlag v => tcuOp (.write v) 0x020#12
  | .rdTcuFlagSet => tcuOp .read 0x024#12
  | .wrTcuFlagSet v => tcuOp (.write v) 0x024#12
  | .rdTcuFlagClr => tcuOp .read 0x028#12
  | .wrTcuFlagClr v => tcuOp (.write v) 0x028#12
  | .rdTcuStopSet => tcuOp .read 0x02c#12
  | .wrTcuStopSet v => tcuOp (.write v) 0x02c#12
  | .rdTcuMask => tcuOp .read 0x030#12
  | .wrTcuMask v => tcuOp (.write v) 0x030#12
  | .rdTcuMaskSet => tcuOp .read 0x034#12
  | .wrTcuMaskSet v => tcuOp (.write v) 0x034#12
  | .rdTcuMaskClr => tcuOp .read 0x038#12
  | .wrTcuMaskClr v => tcuOp (.write v) 0x038#12
  | .rdTcuStopClr => tcuOp .read 0x03c#12
  | .wrTcuStopClr v => tcuOp (.write v) 0x03c#12
  | .rdTcuFull0 => chanOp .read .c0 0x0
  | .wrTcuFull0 v => chanOp (.write v) .c0 0x0
  | .rdTcuHalf0 => chanOp .read .c0 0x4
  | .wrTcuHalf0 v => chanOp (.write v) .c0 0x4
  | .rdTcuCount0 => chanOp .read .c0 0x8
  | .wrTcuCount0 v => chanOp (.write v) .c0 0x8
  | .rdTcuCtrl0 => chanOp .read .c0 0xc
  | .wrTcuCtrl0 v => chanOp (.write v) .c0 0xc
  | .rdTcuFull1 => chanOp .read .c1 0x0
  | .wrTcuFull1 v => chanOp (.write v) .c1 0x0
  | .rdTcuHalf1 => chanOp .read .c1 0x4
  | .wrTcuHalf1 v => chanOp (.write v) .c1 0x4
  | .rdTcuCount1 => chanOp .read .c1 0x8
  | .wrTcuCount1 v => chanOp (.write v) .c1 0x8
  | .rdTcuCtrl1 => chanOp .read .c1 0xc
  | .wrTcuCtrl1 v => chanOp (.write v) .c1 0xc
  | .rdTcuFull2 => chanOp .read .c2 0x0
  | .wrTcuFull2 v => chanOp (.write v) .c2 0x0
  | .rdTcuHalf2 => chanOp .read .c2 0x4
  | .wrTcuHalf2 v => chanOp (.write v) .c2 0x4
  | .rdTcuCount2 => chanOp .read .c2 0x8
  | .wrTcuCount2 v => chanOp (.write v) .c2 0x8
  | .rdTcuCtrl2 => chanOp .read .c2 0xc
  | .wrTcuCtrl2 v => chanOp (.write v) .c2 0xc
  | .rdTcuFull3 => chanOp .read .c3 0x0
  | .wrTcuFull3 v => chanOp (.write v) .c3 0x0
  | .rdTcuHalf3 => chanOp .read .c3 0x4
  | .wrTcuHalf3 v => chanOp (.write v) .c3 0x4
  | .rdTcuCount3 => chanOp .read .c3 0x8
  | .wrTcuCount3 v => chanOp (.write v) .c3 0x8
  | .rdTcuCtrl3 => chanOp .read .c3 0xc
  | .wrTcuCtrl3 v => chanOp (.write v) .c3 0xc
  | .rdTcuFull4 => chanOp .read .c4 0x0
  | .wrTcuFull4 v => chanOp (.write v) .c4 0x0
  | .rdTcuHalf4 => chanOp .read .c4 0x4
  | .wrTcuHalf4 v => chanOp (.write v) .c4 0x4
  | .rdTcuCount4 => chanOp .read .c4 0x8
  | .wrTcuCount4 v => chanOp (.write v) .c4 0x8
  | .rdTcuCtrl4 => chanOp .read .c4 0xc
  | .wrTcuCtrl4 v => chanOp (.write v) .c4 0xc
  | .rdTcuFull5 => chanOp .read .c5 0x0
  | .wrTcuFull5 v => chanOp (.write v) .c5 0x0
  | .rdTcuHalf5 => chanOp .read .c5 0x4
  | .wrTcuHalf5 v => chanOp (.write v) .c5 0x4
  | .rdTcuCount5 => chanOp .read .c5 0x8
  | .wrTcuCount5 v => chanOp (.write v) .c5 0x8
  | .rdTcuCtrl5 => chanOp .read .c5 0xc
  | .wrTcuCtrl5 v => chanOp (.write v) .c5 0xc
  | .rdTcuFull6 => chanOp .read .c6 0x0
  | .wrTcuFull6 v => chanOp (.write v) .c6 0x0
  | .rdTcuHalf6 => chanOp .read .c6 0x4
  | .wrTcuHalf6 v => chanOp (.write v) .c6 0x4
  | .rdTcuCount6 => chanOp .read .c6 0x8
  | .wrTcuCount6 v => chanOp (.write v) .c6 0x8
  | .rdTcuCtrl6 => chanOp .read .c6 0xc
  | .wrTcuCtrl6 v => chanOp (.write v) .c6 0xc
  | .rdTcuFull7 => chanOp .read .c7 0x0
  | .wrTcuFull7 v => chanOp (.write v) .c7 0x0
  | .rdTcuHalf7 => chanOp .read .c7 0x4
  | .wrTcuHalf7 v => chanOp (.write v) .c7 0x4
  | .rdTcuCount7 => chanOp .read .c7 0x8
  | .wrTcuCount7 v => chanOp (.write v) .c7 0x8
  | .rdTcuCtrl7 => chanOp .read .c7 0xc
  | .wrTcuCtrl7 v => chanOp (.write v) .c7 0xc
  | .rdTcuFull15 => chanOp .read .ost 0x0
  | .wrTcuFull15 v => chanOp (.write v) .ost 0x0
  | .rdTcuHalf15 => chanOp .read .ost 0x4
  | .wrTcuHalf15 v => chanOp (.write v) .ost 0x4
  | .rdTcuCount15 => chanOp .read .ost 0x8
  | .wrTcuCount15 v => chanOp (.write v) .ost 0x8
  | .rdTcuCtrl15 => chanOp .read .ost 0xc
  | .wrTcuCtrl15 v => chanOp (.write v) .ost 0xc
  | .tcuReserved acc off => tcuOp acc off
  | .notThisBlock acc sz unit off => busOp acc sz unit off

/-- An operation with the data word that no operation but a bus write uses written as 0 (R70). -/
def Operation.normal (op : Operation) : Operation :=
  if op.label.getLsbD 19 = false ∧ op.label.getLsbD 18 = true then op else { op with data := 0#32 }

/-! Physical addresses (20_memory.md R51, R53; 30_encoding.md R71) -/

/-- The window that contains a physical address: its `UNIT` and the offset `pa - base`, none outside
the three windows (R51 to R53, R64). -/
def unitOfAddress (pa : BitVec 32) : Option (BitVec 4 × BitVec 12) :=
  let within (base : BitVec 32) (size : Nat) : Bool :=
    decide (base.toNat ≤ pa.toNat ∧ pa.toNat < base.toNat + size)
  if within Config.cguBase Config.cguWindow then
    some (0#4, BitVec.ofNat 12 (pa.toNat - Config.cguBase.toNat))
  else if within Config.intcBase Config.intcWindow then
    some (1#4, BitVec.ofNat 12 (pa.toNat - Config.intcBase.toNat))
  else if within Config.tcuBase Config.tcuWindow then
    some (2#4, BitVec.ofNat 12 (pa.toNat - Config.tcuBase.toNat))
  else none

/-- `UNIT` and `OFF` of a physical address, `pa[15:12]` and `pa[11:0]`, where `pa[31:16] = 0x1000` and
`pa[15:12] <= 2`; none for an address past `0x1000_2fff` or below `0x1000_0000`, which has no label (R71). -/
def addressFields (pa : BitVec 32) : Option (BitVec 4 × BitVec 12) :=
  if pa.extractLsb' 16 16 = 0x1000#16 ∧ pa.extractLsb' 12 4 ≤ 2#4 then
    some (pa.extractLsb' 12 4, pa.extractLsb' 0 12)
  else none

/-- The operation of a bus access at a physical address, none where R71 gives the address no label. An address
between two windows has a label; decode refuses it as `NotThisBlock` (R77, R78 b). -/
def accessOp (acc : Access) (sz : Size) (pa : BitVec 32) : Option Operation :=
  (addressFields pa).map fun p => busOp acc sz p.1 p.2

/-! The words of the opcode table -/

/-- Why the bits of a word are no operation. -/
inductive DecodeReject
  /-- The word has a bit above the 20 bits of `L` and the 32 bits of `DATA` (R70). Safe. -/
  | tooLong
deriving DecidableEq, Repr

/-- The operation of a word of `nbits` bits: `L` in bits 19:0 and the data word, which the table
gives no bits, counting on from it in bits 51:20 (R70; the layout is the model's, log entry 3). -/
def readTableWord (nbits w : Nat) : Except DecodeReject Operation :=
  let v := w % 2 ^ nbits
  if v < 2 ^ 52 then .ok { label := BitVec.ofNat 20 v, data := BitVec.ofNat 32 (v / 2 ^ 20) }
  else .error .tooLong

/-- The operation the decoder reads from a word numbered as spec/opcode_table.json numbers it. -/
def decodeTableWord (nbits w : Nat) : Option Instr :=
  match readTableWord nbits w with
  | .ok op => some (decode op)
  | .error _ => none

end Sys2Proof
end

