-- ==== Sys2Proof/Machine/State.lean ====
section
/-! DEFINITION. The state of the block as plain data (10_state.md R20 to R41), why a step can stop, and
the state right after reset (70_reset_and_hazards.md R230). -/
namespace Sys2Proof.Machine

/-- One INTC bank: raw source, mask, cached pending word and output line (R22 to R25). -/
structure IntcBank where
  source : Word
  mask : Word
  pending : Word
  irqOut : Bool
deriving DecidableEq, Repr

/-- The INTC's `NUM_BANKS` banks (R22 to R25, R6). -/
structure Banks where
  b0 : IntcBank
  b1 : IntcBank
deriving DecidableEq, Repr

/-- One channel record (R27 to R31), with the channel's scheduled-callback handle: `tickArmed` says that
its next tick is scheduled (R38). -/
structure Channel where
  count : Word
  full : Word
  half : Word
  ctrl : Word
  tickArmed : Bool
deriving DecidableEq, Repr

/-- The fixed array of channel records, one per channel of `CH` (R27). -/
structure Channels where
  c0 : Channel
  c1 : Channel
  c2 : Channel
  c3 : Channel
  c4 : Channel
  c5 : Channel
  c6 : Channel
  c7 : Channel
  ost : Channel
deriving DecidableEq, Repr

/-- The TCU's three output lines (R36). -/
structure Lines where
  l0 : Bool
  l1 : Bool
  l2 : Bool
deriving DecidableEq, Repr

/-- A channel's register that a bus read does not show (60_exceptions.md R201). -/
inductive ChanReg | full | half | ctrl
deriving DecidableEq, Repr

/-- The unit of a window of the block (R42, R43). -/
inductive BusUnit | intc | tcu
deriving DecidableEq, Repr

/-- A diagnostic record, kind and info (60_exceptions.md R201). -/
inductive Diag
  /-- BAD_ACCESS: unit, offset, size. -/
  | badAccess (unit : BusUnit) (off : BitVec 12) (sz : Size)
  /-- UNKNOWN_OFFSET: unit, offset. -/
  | unknownOffset (unit : BusUnit) (off : BitVec 12)
  /-- BANK_RANGE: offset. -/
  | bankRange (off : BitVec 12)
  /-- REQ_RANGE: index. -/
  | reqRange (idx : BitVec 8)
  /-- WO_READ: unit, offset. -/
  | woRead (unit : BusUnit) (off : BitVec 12)
  /-- UNHANDLED_READ: channel, register. -/
  | unhandledRead (c : Chan) (r : ChanReg)
deriving DecidableEq, Repr

/-- One access that the CGU stub has logged (20_memory.md R52; what a record holds is the model's, log
entry 6). -/
structure CguAccess where
  acc : Access
  sz : Size
  off : BitVec 12
deriving DecidableEq, Repr

/-- The result of a bus read, as wide as the access (30_encoding.md R70, R76). -/
inductive RData
  | byte (v : BitVec 8)
  | half (v : BitVec 16)
  | word (v : BitVec 32)
  | dword (v : BitVec 64)
deriving DecidableEq, Repr

/-- The state of the block, its two logs, its last read result and the operations that wait for it. -/
structure State where
  /-- `intc.*[b]` (R22 to R25). -/
  intc : Banks
  /-- `tcu.ch[c].*` (R27 to R31, R38). -/
  ch : Channels
  /-- `tcu.enable` (R32). -/
  enable : Word
  /-- `tcu.flag` (R33). -/
  flag : Word
  /-- `tcu.stop` (R34). -/
  stop : Word
  /-- `tcu.mask` (R35). -/
  mask : Word
  /-- `tcu.line[k]` (R36). -/
  line : Lines
  /-- `RDATA` of the last bus read (30_encoding.md R70; log entry 4). -/
  rdata : RData
  /-- The diagnostic records, oldest first (R39; log entry 5). -/
  diags : List Diag
  /-- The CGU's log, oldest first (20_memory.md R52; log entry 6). -/
  cguLog : List CguAccess
  /-- The operations that have arrived and wait, oldest first (R21; log entry 1). -/
  inputs : List Operation
deriving DecidableEq, Repr

/-- Reasons to stop with a fault: none. The block raises no exception, never traps and never stalls
(60_exceptions.md R200), so this type has no constructor, and no step faults. -/
inductive Fault
deriving DecidableEq, Repr

/-- Reasons to refuse an operation. -/
inductive Refusal
  /-- Raised by an arm of `exec` that has no meaning yet, with the row's mnemonic; none is left. Safe: a
  refused operation proves nothing about the block. -/
  | notModelled (mnemonic : String)
  /-- Raised by a label that names no event (30_encoding.md R78 a, `ReservedEvent`). Safe: the spec has
  the decoder refuse it. -/
  | reservedEvent (ek : BitVec 3) (payload : BitVec 16)
  /-- Raised by a bus address in no window (20_memory.md R64, 30_encoding.md R78 b, `NotThisBlock`).
  Safe: the spec has a model of the block refuse it. -/
  | notThisBlock (unit : BitVec 4) (off : BitVec 12)
  /-- Raised by a REQ event to a bank-0 input that a TCU line drives (40_intc.md R101 c). Safe: the spec
  refuses it, since only the TCU drives that input. -/
  | tcuDrivenInput (idx : BitVec 8)
deriving DecidableEq, Repr

/-- A bank's registers after reset (R22 to R25, R230). -/
def IntcBank.reset : IntcBank :=
  { source := 0x00000000#32, mask := 0xFFFFFFFF#32, pending := 0x00000000#32, irqOut := false }

/-- A channel's record after reset (R28 to R31); its tick is scheduled (R38, R188; log entry 9). -/
def Channel.reset : Channel :=
  { count := 0#32, full := 0#32, half := 0#32, ctrl := 0#32, tickArmed := true }

/-- The machine right after reset (R230, 10_state.md section 7); the read result, the logs and the waiting
operations are the model's (log entries 1, 4, 5, 6). -/
def State.reset : State :=
  { intc := { b0 := IntcBank.reset, b1 := IntcBank.reset }
    ch :=
      { c0 := Channel.reset, c1 := Channel.reset, c2 := Channel.reset, c3 := Channel.reset
        c4 := Channel.reset, c5 := Channel.reset, c6 := Channel.reset, c7 := Channel.reset
        ost := Channel.reset }
    enable := 0x00000000#32
    flag := 0x00000000#32
    stop := 0xFFFFFFFF#32
    mask := 0xFFFFFFFF#32
    line := { l0 := false, l1 := false, l2 := false }
    rdata := .word 0#32
    diags := []
    cguLog := []
    inputs := [] }

end Sys2Proof.Machine
end

