-- ==== Sys2Proof/Machine/Flags.lean ====
section
/-! DEFINITION. The TCU's flag and line computations (43_tcu_tick.md R180 to R185). -/
namespace Sys2Proof.Machine

/-- The overflow flag of channel `c`, bit `c` of `tcu.flag` (10_state.md R33). -/
def overBit (c : Chan) : Word := bit c.index

/-- The half-overflow flag of channel `c`, bit `16 + c` of `tcu.flag`; the OS timer has none (R33). -/
def halfBit (c : Chan) : Word :=
  match c with
  | .ost => 0#32
  | c => bit (16 + c.index)

/-- The half-overflow flag a recompute adds: `count >=u half`, tested before the reset to 0 (R180). -/
def halfFlag (c : Chan) (r : Channel) : Word :=
  if r.half ≤ r.count then halfBit c else 0#32

/-- The overflow flag a recompute adds: `count >=u full` (R180). -/
def overFlag (c : Chan) (r : Channel) : Word :=
  if r.full ≤ r.count then overBit c else 0#32

/-- The auto-reload: a count at or past `full` becomes 0, the excess dropped (R180). -/
def autoReload (r : Channel) : Channel :=
  if r.full ≤ r.count then { r with count := 0#32 } else r

/-- `LINE_BITS[k]` (R182 to R185). -/
def lineBits : Line → Word
  | .l0 => 0x00008000#32
  | .l1 => 0x00200020#32
  | .l2 => 0x00DF00DF#32

/-- The level of line `k`: `((flag & ~mask) & LINE_BITS[k]) != 0` (R182). -/
def lineLevel (k : Line) (flag mask : Word) : Bool := (flag &&& ~~~mask) &&& lineBits k != 0#32

/-- Whether bit `c` of the enable word gates channel `c` on (R187, decision D17). -/
def isEnabled (c : Chan) (enable : Word) : Bool := enable.getLsbD c.index

end Sys2Proof.Machine
end

