-- ==== Sys2Proof/Machine/Operands.lean ====
section
/-! DEFINITION. How an operation's operands become values (30_encoding.md R73 to R76, 40_intc.md R101). -/
namespace Sys2Proof.Machine

/-- The data of a full or half write: `DATA & 0x0000_FFFF` (R75). -/
def thresholdData (v : Word) : Word := v &&& 0x0000FFFF#32

/-- How a write combines its data with the target word: whole-word, set or clear register (R62, R150). -/
inductive BitsetOp | whole | set | clr
deriving DecidableEq, Repr

/-- `v`, `old | v` or `old & ~v` (R62, R150). -/
def BitsetOp.apply (op : BitsetOp) (old v : Word) : Word :=
  match op with
  | .whole => v
  | .set => old ||| v
  | .clr => old &&& ~~~v

/-- The bank `idx >> 5` of a source index, none at or past `32 * NUM_BANKS` (R101, decision D3). -/
def reqBank (idx : BitVec 8) : Option Bank := Bank.ofIndex (idx.toNat / 32)

/-- The bit `idx & 31` of a source index in its bank (R101, decision D3). -/
def reqBit (idx : BitVec 8) : Fin 32 := Fin.ofNat 32 idx.toNat

/-- The offset of register `r` of bank `b` in the INTC window, `0x20*b + r` (10_state.md R42). -/
def intcOffset (b : Bank) (r : Nat) : BitVec 12 := BitVec.ofNat 12 (0x20 * b.index + r)

/-- A result of `n` zero bytes for an access of `n` bytes (20_memory.md R55, R76). -/
def RData.zero : Size → RData
  | .byte => .byte 0#8
  | .half => .half 0#16
  | .word => .word 0#32
  | .dword => .dword 0#64

/-- The bytes of a read result, the byte at the lowest address first: little-endian (20_memory.md R56,
log entry 18). -/
def RData.bytes : RData → List (BitVec 8)
  | .byte v => [v]
  | .half v => (List.range 2).map fun i => v.extractLsb' (8 * i) 8
  | .word v => (List.range 4).map fun i => v.extractLsb' (8 * i) 8
  | .dword v => (List.range 8).map fun i => v.extractLsb' (8 * i) 8

end Sys2Proof.Machine
end

