-- ==== Sys2Proof/Machine/Ops.lean ====
section
/-! DEFINITION. The named operations over the block's state that the meanings share. The block takes no
exception and returns from none (60_exceptions.md R200, R207); what it does instead of a trap entry is to
drive its interrupt lines, the line recompute below (R182, R186, R204). -/
namespace Sys2Proof.Machine

/-! Reading and writing the records -/

/-- The registers of bank `b`. -/
def State.bank (s : State) (b : Bank) : IntcBank :=
  match b with
  | .b0 => s.intc.b0
  | .b1 => s.intc.b1

/-- The banks with bank `b` replaced. -/
def Banks.put (t : Banks) (b : Bank) (r : IntcBank) : Banks :=
  match b with
  | .b0 => { t with b0 := r }
  | .b1 => { t with b1 := r }

/-- `intc.*[b] <- r`. -/
def State.setBank (s : State) (b : Bank) (r : IntcBank) : State := { s with intc := s.intc.put b r }

/-- The record `tcu.ch[c]`. -/
def State.chan (s : State) (c : Chan) : Channel :=
  match c with
  | .c0 => s.ch.c0
  | .c1 => s.ch.c1
  | .c2 => s.ch.c2
  | .c3 => s.ch.c3
  | .c4 => s.ch.c4
  | .c5 => s.ch.c5
  | .c6 => s.ch.c6
  | .c7 => s.ch.c7
  | .ost => s.ch.ost

/-- The channel array with record `c` replaced. -/
def Channels.put (t : Channels) (c : Chan) (r : Channel) : Channels :=
  match c with
  | .c0 => { t with c0 := r }
  | .c1 => { t with c1 := r }
  | .c2 => { t with c2 := r }
  | .c3 => { t with c3 := r }
  | .c4 => { t with c4 := r }
  | .c5 => { t with c5 := r }
  | .c6 => { t with c6 := r }
  | .c7 => { t with c7 := r }
  | .ost => { t with ost := r }

/-- `tcu.ch[c] <- r`. -/
def State.setChan (s : State) (c : Chan) (r : Channel) : State := { s with ch := s.ch.put c r }

/-- The level `tcu.line[k]`. -/
def State.lineOf (s : State) (k : Line) : Bool :=
  match k with
  | .l0 => s.line.l0
  | .l1 => s.line.l1
  | .l2 => s.line.l2

/-- The lines with line `k` replaced. -/
def Lines.put (t : Lines) (k : Line) (v : Bool) : Lines :=
  match k with
  | .l0 => { t with l0 := v }
  | .l1 => { t with l1 := v }
  | .l2 => { t with l2 := v }

/-- `tcu.line[k] <- v`. -/
def State.setLine (s : State) (k : Line) (v : Bool) : State := { s with line := s.line.put k v }

/-- `TCU_IRQ_SRC[k]` (00_scope.md R10). -/
def lineSource (P : Params) (k : Line) : Fin 32 :=
  match k with
  | .l0 => P.irqSrc0
  | .l1 => P.irqSrc1
  | .l2 => P.irqSrc2

/-! Results and records -/

/-- `RDATA <- v` (30_encoding.md R70, R76). -/
def State.respond (s : State) (v : RData) : State := { s with rdata := v }

/-- `emit Diag(kind, info)`: append a record; no other state changes (00_scope.md R16). -/
def State.emit (s : State) (d : Diag) : State := { s with diags := s.diags ++ [d] }

/-- The CGU stub logs an access (20_memory.md R52). -/
def State.logCgu (s : State) (a : CguAccess) : State := { s with cguLog := s.cguLog ++ [a] }

/-- A diagnosed access of size `sz` that reaches no register or no readable one: a read answers zero
bytes, a write is dropped (20_memory.md R55, 60_exceptions.md R200). -/
def State.diagnosed (s : State) (d : Diag) (acc : Access) (sz : Size) : State :=
  match acc with
  | .read => (s.emit d).respond (RData.zero sz)
  | .write _ => s.emit d

/-! The INTC -/

/-- `intc_recompute(b)` (40_intc.md R100). -/
def intcRecompute (b : Bank) (s : State) : State :=
  let r := s.bank b
  let pending := r.source &&& ~~~r.mask
  s.setBank b { r with pending := pending, irqOut := pending != 0#32 }

/-- The INTC's input `i` of bank `b` driven to level `lv`, with the bank's recompute: the body of REQ and
of `intc_drive` (40_intc.md R101, 43_tcu_tick.md R186). -/
def intcDrive (b : Bank) (i : Fin 32) (lv : Bool) (s : State) : State :=
  let r := s.bank b
  intcRecompute b
    (s.setBank b { r with source := (r.source &&& ~~~bit i.val) ||| (boolWord lv <<< i.val) })

/-- A write of bank `b`'s mask register, its mask-set or its mask-clear register, with the bank's
recompute (40_intc.md R105 to R107). -/
def intcMaskWrite (op : BitsetOp) (b : Bank) (v : Word) (s : State) : State :=
  let r := s.bank b
  intcRecompute b (s.setBank b { r with mask := op.apply r.mask v })

/-! The TCU's recomputes -/

/-- `tcu_chan_recompute(c)` (43_tcu_tick.md R180): both tests see the count as it was before. -/
def chanRecompute (c : Chan) (s : State) : State :=
  let r := s.chan c
  { s.setChan c (autoReload r) with flag := s.flag ||| halfFlag c r ||| overFlag c r }

/-- The channel recompute of each channel of a list, in its order. -/
def recomputeList : List Chan → State → State
  | [], s => s
  | c :: cs, s => recomputeList cs (chanRecompute c s)

/-- `tcu_recompute_all()` (R181). -/
def recomputeAll (s : State) : State := recomputeList Chan.all s

/-- The body of the line recompute for one line: drive `tcu.line[k]` and the bank-0 input it is wired to
(R182, R186). -/
def driveLine (P : Params) (k : Line) (s : State) : State :=
  let lv := lineLevel k s.flag s.mask
  intcDrive .b0 (lineSource P k) lv (s.setLine k lv)

/-- `tcu_lines_recompute()` (R182): every call drives all three lines. -/
def linesRecompute (P : Params) (s : State) : State :=
  driveLine P .l2 (driveLine P .l1 (driveLine P .l0 s))

/-! The shapes of the TCU's operations -/

/-- A channel write: the new record, the recompute of that channel, then of the lines
(41_tcu_channel.md R134 to R137). -/
def channelWrite (P : Params) (c : Chan) (f : Channel → Channel) (s : State) : State :=
  linesRecompute P (chanRecompute c (s.setChan c (f (s.chan c))))

/-- The four global words (42_tcu_global.md R150). -/
inductive GlobalWord | enable | stop | flag | mask
deriving DecidableEq, Repr

/-- A global word's value. -/
def State.word (s : State) (w : GlobalWord) : Word :=
  match w with
  | .enable => s.enable
  | .stop => s.stop
  | .flag => s.flag
  | .mask => s.mask

/-- `tcu.<word> <- v`. -/
def State.setWord (s : State) (w : GlobalWord) (v : Word) : State :=
  match w with
  | .enable => { s with enable := v }
  | .stop => { s with stop := v }
  | .flag => { s with flag := v }
  | .mask => { s with mask := v }

/-- `global_write(word, op, v)` (R150). -/
def globalWrite (P : Params) (w : GlobalWord) (op : BitsetOp) (v : Word) (s : State) : State :=
  linesRecompute P (recomputeAll (s.setWord w (op.apply (s.word w) v)))

/-- The count's advance at a tick: `TICK_INCREMENT` modulo 2^32 where bit `c` of the enable word is set
(43_tcu_tick.md R187). -/
def countTick (P : Params) (c : Chan) (s : State) : State :=
  if isEnabled c s.enable then
    s.setChan c { s.chan c with count := (s.chan c).count + P.tickIncrement }
  else s

/-- The channel's handle with the virtual clock is scheduled again (10_state.md R38, R187). -/
def rearm (c : Chan) (s : State) : State := s.setChan c { s.chan c with tickArmed := true }

/-- `TICK(c)` (R187). -/
def tick (P : Params) (c : Chan) (s : State) : State :=
  rearm c (linesRecompute P (chanRecompute c (countTick P c s)))

/-! Requests and reset -/

/-- Whether the index names a bank-0 input that a TCU line drives (40_intc.md R101 c). -/
def isTcuDriven (P : Params) (idx : BitVec 8) : Bool :=
  decide (idx.toNat = P.irqSrc0.val ∨ idx.toNat = P.irqSrc1.val ∨ idx.toNat = P.irqSrc2.val)

/-- `REQ(idx, lv)` from an upstream device (40_intc.md R101, decision D30). -/
def request (P : Params) (lv : Bool) (idx : BitVec 8) (s : State) :
    Host.Outcome State Fault Refusal :=
  match reqBank idx with
  | none => .next (s.emit (.reqRange idx))
  | some b =>
    if isTcuDriven P idx then .refused (.tcuDrivenInput idx)
    else .next (intcDrive b (reqBit idx) lv s)

/-- A channel record's four registers at their reset values; its tick handle is untouched
(70_reset_and_hazards.md R230, 10_state.md R38). -/
def Channel.clear (r : Channel) : Channel :=
  { r with count := 0#32, full := 0#32, half := 0#32, ctrl := 0#32 }

/-- `RESET` (R230): every register at its reset value, no recompute, the tick schedule untouched. The read
result, the logs and the waiting operations are no registers and stay (log entry 17). -/
def resetRegisters (s : State) : State :=
  { s with
    intc := { b0 := IntcBank.reset, b1 := IntcBank.reset }
    ch :=
      { c0 := s.ch.c0.clear, c1 := s.ch.c1.clear, c2 := s.ch.c2.clear, c3 := s.ch.c3.clear
        c4 := s.ch.c4.clear, c5 := s.ch.c5.clear, c6 := s.ch.c6.clear, c7 := s.ch.c7.clear
        ost := s.ch.ost.clear }
    enable := 0x00000000#32
    flag := 0x00000000#32
    stop := 0xFFFFFFFF#32
    mask := 0xFFFFFFFF#32
    line := { l0 := false, l1 := false, l2 := false } }

/-! Arrival of operations, and the processor's inputs -/

/-- The next operation, and the state with it taken from the list (10_state.md R21, 20_memory.md R60). -/
def fetch (s : State) : Option (Operation × State) :=
  match s.inputs with
  | [] => none
  | op :: rest => some (op, { s with inputs := rest })

/-- The levels at the processor's interrupt inputs (00_scope.md R11, 60_exceptions.md R204). -/
def State.cpuInputs (s : State) : List Bool :=
  Config.cpuIrqWiring s.intc.b0.irqOut s.intc.b1.irqOut

end Sys2Proof.Machine
end

