-- ==== Sys2Proof/Machine/Bus.lean ====
section
/-! DEFINITION. The CGU neighbour and the catch-alls of the bus (20_memory.md R52, R55, R64). -/
namespace Sys2Proof.Machine

/-- CGU read at any offset and size: logged, answered with 0 (20_memory.md R52). -/
def execRdCgu (sz : Size) (off : BitVec 12) (s : State) : Host.Outcome State Fault Refusal :=
  .next ((s.logCgu { acc := .read, sz := sz, off := off }).respond (RData.zero sz))

/-- CGU write at any offset and size: logged, no other effect (20_memory.md R52). -/
def execWrCgu (sz : Size) (off : BitVec 12) (data : Word) (s : State) :
    Host.Outcome State Fault Refusal :=
  .next (s.logCgu { acc := .write data, sz := sz, off := off })

/-- INTC access of an unsupported size or alignment (20_memory.md R55). -/
def execIntcUnsupported (acc : Access) (sz : Size) (off : BitVec 12) (s : State) :
    Host.Outcome State Fault Refusal :=
  .next (s.diagnosed (.badAccess .intc off sz) acc sz)

/-- TCU access of an unsupported size or alignment (20_memory.md R55). -/
def execTcuUnsupported (acc : Access) (sz : Size) (off : BitVec 12) (s : State) :
    Host.Outcome State Fault Refusal :=
  .next (s.diagnosed (.badAccess .tcu off sz) acc sz)

/-- A bus address in no window: refused, `NotThisBlock` (20_memory.md R64, 30_encoding.md R78 b). -/
def execNotThisBlock (_acc : Access) (_sz : Size) (unit : BitVec 4) (off : BitVec 12) (_s : State) :
    Host.Outcome State Fault Refusal :=
  .refused (.notThisBlock unit off)

end Sys2Proof.Machine
end

