-- ==== Sys2Proof/Machine/Events.lean ====
section
/-! DEFINITION. The request input, reset and the reserved labels (40_intc.md R101, 70_reset_and_hazards.md R230, 30_encoding.md R78). -/
namespace Sys2Proof.Machine

/-- `req idx, lv` (40_intc.md R101). -/
def execReq (lv : Bool) (idx : BitVec 8) (s : State) : Host.Outcome State Fault Refusal :=
  request Config.params lv idx s

/-- `reset` (70_reset_and_hazards.md R230). -/
def execReset (s : State) : Host.Outcome State Fault Refusal :=
  .next (resetRegisters s)

/-- A label that names no event: refused, `ReservedEvent` (30_encoding.md R78 a). -/
def execReservedEvent (ek : BitVec 3) (payload : BitVec 16) (_s : State) :
    Host.Outcome State Fault Refusal :=
  .refused (.reservedEvent ek payload)

end Sys2Proof.Machine
end

