-- ==== Sys2Proof/Machine/Intc.lean ====
section
/-! DEFINITION. The INTC register operations (40_intc.md R102 to R112). -/
namespace Sys2Proof.Machine

/-- `rd.w INTC_SOURCE(b)` (R102). -/
def execRdIntcSource (b : Bank) (s : State) : Host.Outcome State Fault Refusal :=
  .next (s.respond (.word (s.bank b).source))

/-- `wr.w INTC_SOURCE(b), v`: silently ignored (R103). -/
def execWrIntcSource (_b : Bank) (_data : Word) (s : State) : Host.Outcome State Fault Refusal :=
  .next s

/-- `rd.w INTC_MASK(b)` (R104). -/
def execRdIntcMask (b : Bank) (s : State) : Host.Outcome State Fault Refusal :=
  .next (s.respond (.word (s.bank b).mask))

/-- Write of the register at `0x04` of bank `b` (R105). -/
def execWrIntcMask (b : Bank) (data : Word) (s : State) : Host.Outcome State Fault Refusal :=
  .next (intcMaskWrite .whole b data s)

/-- Read of the write-only register at `0x08` of bank `b` (R108). -/
def execRdIntcMaskSet (b : Bank) (s : State) : Host.Outcome State Fault Refusal :=
  .next (s.diagnosed (.woRead .intc (intcOffset b 0x08)) .read .word)

/-- Write of the register at `0x08` of bank `b` (R106). -/
def execWrIntcMaskSet (b : Bank) (data : Word) (s : State) : Host.Outcome State Fault Refusal :=
  .next (intcMaskWrite .set b data s)

/-- Read of the write-only register at `0x0c` of bank `b` (R108). -/
def execRdIntcMaskClr (b : Bank) (s : State) : Host.Outcome State Fault Refusal :=
  .next (s.diagnosed (.woRead .intc (intcOffset b 0x0c)) .read .word)

/-- Write of the register at `0x0c` of bank `b` (R107). -/
def execWrIntcMaskClr (b : Bank) (data : Word) (s : State) : Host.Outcome State Fault Refusal :=
  .next (intcMaskWrite .clr b data s)

/-- `rd.w INTC_PENDING(b)` (R109). -/
def execRdIntcPending (b : Bank) (s : State) : Host.Outcome State Fault Refusal :=
  .next (s.respond (.word (s.bank b).pending))

/-- `wr.w INTC_PENDING(b), v`: silently ignored (R110). -/
def execWrIntcPending (_b : Bank) (_data : Word) (s : State) : Host.Outcome State Fault Refusal :=
  .next s

/-- Reserved offset `0x14` of bank `b` (R111). -/
def execIntcReserved14 (acc : Access) (b : Bank) (s : State) : Host.Outcome State Fault Refusal :=
  .next (s.diagnosed (.unknownOffset .intc (intcOffset b 0x14)) acc .word)

/-- Reserved offset `0x18` of bank `b` (R111). -/
def execIntcReserved18 (acc : Access) (b : Bank) (s : State) : Host.Outcome State Fault Refusal :=
  .next (s.diagnosed (.unknownOffset .intc (intcOffset b 0x18)) acc .word)

/-- Reserved offset `0x1c` of bank `b` (R111). -/
def execIntcReserved1c (acc : Access) (b : Bank) (s : State) : Host.Outcome State Fault Refusal :=
  .next (s.diagnosed (.unknownOffset .intc (intcOffset b 0x1c)) acc .word)

/-- Access to a bank that does not exist (R112). -/
def execIntcBankRange (acc : Access) (off : BitVec 12) (s : State) :
    Host.Outcome State Fault Refusal :=
  .next (s.diagnosed (.bankRange off) acc .word)

end Sys2Proof.Machine
end

