-- ==== Sys2Proof/Machine/TcuChannel.lean ====
section
/-! DEFINITION. The TCU channel register operations (41_tcu_channel.md R130 to R138). -/
namespace Sys2Proof.Machine

/-- `wr.w TCU_FULL(c), v`: the full register takes `v & 0x0000_FFFF`, then the channel and the lines
are recomputed (R134). -/
def writeFull (P : Params) (c : Chan) (v : Word) (s : State) : State :=
  channelWrite P c (fun r => { r with full := thresholdData v }) s

/-- `wr.w TCU_HALF(c), v`: the half register takes `v & 0x0000_FFFF`, then the channel and the lines
are recomputed (R135). -/
def writeHalf (P : Params) (c : Chan) (v : Word) (s : State) : State :=
  channelWrite P c (fun r => { r with half := thresholdData v }) s

/-- `wr.w TCU_COUNT(c), v`: the count register takes `v`, then the channel and the lines
are recomputed (R136). -/
def writeCount (P : Params) (c : Chan) (v : Word) (s : State) : State :=
  channelWrite P c (fun r => { r with count := v }) s

/-- `wr.w TCU_CTRL(c), v`: the ctrl register takes `v`, then the channel and the lines
are recomputed (R137). -/
def writeCtrl (P : Params) (c : Chan) (v : Word) (s : State) : State :=
  channelWrite P c (fun r => { r with ctrl := v }) s

/-- `rd.w TCU_FULL(0)` (R131). -/
def execRdTcuFull0 (s : State) : Host.Outcome State Fault Refusal :=
  .next (s.diagnosed (.unhandledRead .c0 .full) .read .word)

/-- `wr.w TCU_FULL(0), v` (R134). -/
def execWrTcuFull0 (data : Word) (s : State) : Host.Outcome State Fault Refusal :=
  .next (writeFull Config.params .c0 data s)

/-- `rd.w TCU_HALF(0)` (R132). -/
def execRdTcuHalf0 (s : State) : Host.Outcome State Fault Refusal :=
  .next (s.diagnosed (.unhandledRead .c0 .half) .read .word)

/-- `wr.w TCU_HALF(0), v` (R135). -/
def execWrTcuHalf0 (data : Word) (s : State) : Host.Outcome State Fault Refusal :=
  .next (writeHalf Config.params .c0 data s)

/-- `rd.w TCU_COUNT(0)` (R130). -/
def execRdTcuCount0 (s : State) : Host.Outcome State Fault Refusal :=
  .next (s.respond (.word (s.chan .c0).count))

/-- `wr.w TCU_COUNT(0), v` (R136). -/
def execWrTcuCount0 (data : Word) (s : State) : Host.Outcome State Fault Refusal :=
  .next (writeCount Config.params .c0 data s)

/-- `rd.w TCU_CTRL(0)` (R133). -/
def execRdTcuCtrl0 (s : State) : Host.Outcome State Fault Refusal :=
  .next (s.diagnosed (.unhandledRead .c0 .ctrl) .read .word)

/-- `wr.w TCU_CTRL(0), v` (R137). -/
def execWrTcuCtrl0 (data : Word) (s : State) : Host.Outcome State Fault Refusal :=
  .next (writeCtrl Config.params .c0 data s)

/-- `rd.w TCU_FULL(1)` (R131). -/
def execRdTcuFull1 (s : State) : Host.Outcome State Fault Refusal :=
  .next (s.diagnosed (.unhandledRead .c1 .full) .read .word)

/-- `wr.w TCU_FULL(1), v` (R134). -/
def execWrTcuFull1 (data : Word) (s : State) : Host.Outcome State Fault Refusal :=
  .next (writeFull Config.params .c1 data s)

/-- `rd.w TCU_HALF(1)` (R132). -/
def execRdTcuHalf1 (s : State) : Host.Outcome State Fault Refusal :=
  .next (s.diagnosed (.unhandledRead .c1 .half) .read .word)

/-- `wr.w TCU_HALF(1), v` (R135). -/
def execWrTcuHalf1 (data : Word) (s : State) : Host.Outcome State Fault Refusal :=
  .next (writeHalf Config.params .c1 data s)

/-- `rd.w TCU_COUNT(1)` (R130). -/
def execRdTcuCount1 (s : State) : Host.Outcome State Fault Refusal :=
  .next (s.respond (.word (s.chan .c1).count))

/-- `wr.w TCU_COUNT(1), v` (R136). -/
def execWrTcuCount1 (data : Word) (s : State) : Host.Outcome State Fault Refusal :=
  .next (writeCount Config.params .c1 data s)

/-- `rd.w TCU_CTRL(1)` (R133). -/
def execRdTcuCtrl1 (s : State) : Host.Outcome State Fault Refusal :=
  .next (s.diagnosed (.unhandledRead .c1 .ctrl) .read .word)

/-- `wr.w TCU_CTRL(1), v` (R137). -/
def execWrTcuCtrl1 (data : Word) (s : State) : Host.Outcome State Fault Refusal :=
  .next (writeCtrl Config.params .c1 data s)

/-- `rd.w TCU_FULL(2)` (R131). -/
def execRdTcuFull2 (s : State) : Host.Outcome State Fault Refusal :=
  .next (s.diagnosed (.unhandledRead .c2 .full) .read .word)

/-- `wr.w TCU_FULL(2), v` (R134). -/
def execWrTcuFull2 (data : Word) (s : State) : Host.Outcome State Fault Refusal :=
  .next (writeFull Config.params .c2 data s)

/-- `rd.w TCU_HALF(2)` (R132). -/
def execRdTcuHalf2 (s : State) : Host.Outcome State Fault Refusal :=
  .next (s.diagnosed (.unhandledRead .c2 .half) .read .word)

/-- `wr.w TCU_HALF(2), v` (R135). -/
def execWrTcuHalf2 (data : Word) (s : State) : Host.Outcome State Fault Refusal :=
  .next (writeHalf Config.params .c2 data s)

/-- `rd.w TCU_COUNT(2)` (R130). -/
def execRdTcuCount2 (s : State) : Host.Outcome State Fault Refusal :=
  .next (s.respond (.word (s.chan .c2).count))

/-- `wr.w TCU_COUNT(2), v` (R136). -/
def execWrTcuCount2 (data : Word) (s : State) : Host.Outcome State Fault Refusal :=
  .next (writeCount Config.params .c2 data s)

/-- `rd.w TCU_CTRL(2)` (R133). -/
def execRdTcuCtrl2 (s : State) : Host.Outcome State Fault Refusal :=
  .next (s.diagnosed (.unhandledRead .c2 .ctrl) .read .word)

/-- `wr.w TCU_CTRL(2), v` (R137). -/
def execWrTcuCtrl2 (data : Word) (s : State) : Host.Outcome State Fault Refusal :=
  .next (writeCtrl Config.params .c2 data s)

/-- `rd.w TCU_FULL(3)` (R131). -/
def execRdTcuFull3 (s : State) : Host.Outcome State Fault Refusal :=
  .next (s.diagnosed (.unhandledRead .c3 .full) .read .word)

/-- `wr.w TCU_FULL(3), v` (R134). -/
def execWrTcuFull3 (data : Word) (s : State) : Host.Outcome State Fault Refusal :=
  .next (writeFull Config.params .c3 data s)

/-- `rd.w TCU_HALF(3)` (R132). -/
def execRdTcuHalf3 (s : State) : Host.Outcome State Fault Refusal :=
  .next (s.diagnosed (.unhandledRead .c3 .half) .read .word)

/-- `wr.w TCU_HALF(3), v` (R135). -/
def execWrTcuHalf3 (data : Word) (s : State) : Host.Outcome State Fault Refusal :=
  .next (writeHalf Config.params .c3 data s)

/-- `rd.w TCU_COUNT(3)` (R130). -/
def execRdTcuCount3 (s : State) : Host.Outcome State Fault Refusal :=
  .next (s.respond (.word (s.chan .c3).count))

/-- `wr.w TCU_COUNT(3), v` (R136). -/
def execWrTcuCount3 (data : Word) (s : State) : Host.Outcome State Fault Refusal :=
  .next (writeCount Config.params .c3 data s)

/-- `rd.w TCU_CTRL(3)` (R133). -/
def execRdTcuCtrl3 (s : State) : Host.Outcome State Fault Refusal :=
  .next (s.diagnosed (.unhandledRead .c3 .ctrl) .read .word)

/-- `wr.w TCU_CTRL(3), v` (R137). -/
def execWrTcuCtrl3 (data : Word) (s : State) : Host.Outcome State Fault Refusal :=
  .next (writeCtrl Config.params .c3 data s)

/-- `rd.w TCU_FULL(4)` (R131). -/
def execRdTcuFull4 (s : State) : Host.Outcome State Fault Refusal :=
  .next (s.diagnosed (.unhandledRead .c4 .full) .read .word)

/-- `wr.w TCU_FULL(4), v` (R134). -/
def execWrTcuFull4 (data : Word) (s : State) : Host.Outcome State Fault Refusal :=
  .next (writeFull Config.params .c4 data s)

/-- `rd.w TCU_HALF(4)` (R132). -/
def execRdTcuHalf4 (s : State) : Host.Outcome State Fault Refusal :=
  .next (s.diagnosed (.unhandledRead .c4 .half) .read .word)

/-- `wr.w TCU_HALF(4), v` (R135). -/
def execWrTcuHalf4 (data : Word) (s : State) : Host.Outcome State Fault Refusal :=
  .next (writeHalf Config.params .c4 data s)

/-- `rd.w TCU_COUNT(4)` (R130). -/
def execRdTcuCount4 (s : State) : Host.Outcome State Fault Refusal :=
  .next (s.respond (.word (s.chan .c4).count))

/-- `wr.w TCU_COUNT(4), v` (R136). -/
def execWrTcuCount4 (data : Word) (s : State) : Host.Outcome State Fault Refusal :=
  .next (writeCount Config.params .c4 data s)

/-- `rd.w TCU_CTRL(4)` (R133). -/
def execRdTcuCtrl4 (s : State) : Host.Outcome State Fault Refusal :=
  .next (s.diagnosed (.unhandledRead .c4 .ctrl) .read .word)

/-- `wr.w TCU_CTRL(4), v` (R137). -/
def execWrTcuCtrl4 (data : Word) (s : State) : Host.Outcome State Fault Refusal :=
  .next (writeCtrl Config.params .c4 data s)

/-- `rd.w TCU_FULL(5)` (R131). -/
def execRdTcuFull5 (s : State) : Host.Outcome State Fault Refusal :=
  .next (s.diagnosed (.unhandledRead .c5 .full) .read .word)

/-- `wr.w TCU_FULL(5), v` (R134). -/
def execWrTcuFull5 (data : Word) (s : State) : Host.Outcome State Fault Refusal :=
  .next (writeFull Config.params .c5 data s)

/-- `rd.w TCU_HALF(5)` (R132). -/
def execRdTcuHalf5 (s : State) : Host.Outcome State Fault Refusal :=
  .next (s.diagnosed (.unhandledRead .c5 .half) .read .word)

/-- `wr.w TCU_HALF(5), v` (R135). -/
def execWrTcuHalf5 (data : Word) (s : State) : Host.Outcome State Fault Refusal :=
  .next (writeHalf Config.params .c5 data s)

/-- `rd.w TCU_COUNT(5)` (R130). -/
def execRdTcuCount5 (s : State) : Host.Outcome State Fault Refusal :=
  .next (s.respond (.word (s.chan .c5).count))

/-- `wr.w TCU_COUNT(5), v` (R136). -/
def execWrTcuCount5 (data : Word) (s : State) : Host.Outcome State Fault Refusal :=
  .next (writeCount Config.params .c5 data s)

/-- `rd.w TCU_CTRL(5)` (R133). -/
def execRdTcuCtrl5 (s : State) : Host.Outcome State Fault Refusal :=
  .next (s.diagnosed (.unhandledRead .c5 .ctrl) .read .word)

/-- `wr.w TCU_CTRL(5), v` (R137). -/
def execWrTcuCtrl5 (data : Word) (s : State) : Host.Outcome State Fault Refusal :=
  .next (writeCtrl Config.params .c5 data s)

/-- `rd.w TCU_FULL(6)` (R131). -/
def execRdTcuFull6 (s : State) : Host.Outcome State Fault Refusal :=
  .next (s.diagnosed (.unhandledRead .c6 .full) .read .word)

/-- `wr.w TCU_FULL(6), v` (R134). -/
def execWrTcuFull6 (data : Word) (s : State) : Host.Outcome State Fault Refusal :=
  .next (writeFull Config.params .c6 data s)

/-- `rd.w TCU_HALF(6)` (R132). -/
def execRdTcuHalf6 (s : State) : Host.Outcome State Fault Refusal :=
  .next (s.diagnosed (.unhandledRead .c6 .half) .read .word)

/-- `wr.w TCU_HALF(6), v` (R135). -/
def execWrTcuHalf6 (data : Word) (s : State) : Host.Outcome State Fault Refusal :=
  .next (writeHalf Config.params .c6 data s)

/-- `rd.w TCU_COUNT(6)` (R130). -/
def execRdTcuCount6 (s : State) : Host.Outcome State Fault Refusal :=
  .next (s.respond (.word (s.chan .c6).count))

/-- `wr.w TCU_COUNT(6), v` (R136). -/
def execWrTcuCount6 (data : Word) (s : State) : Host.Outcome State Fault Refusal :=
  .next (writeCount Config.params .c6 data s)

/-- `rd.w TCU_CTRL(6)` (R133). -/
def execRdTcuCtrl6 (s : State) : Host.Outcome State Fault Refusal :=
  .next (s.diagnosed (.unhandledRead .c6 .ctrl) .read .word)

/-- `wr.w TCU_CTRL(6), v` (R137). -/
def execWrTcuCtrl6 (data : Word) (s : State) : Host.Outcome State Fault Refusal :=
  .next (writeCtrl Config.params .c6 data s)

/-- `rd.w TCU_FULL(7)` (R131). -/
def execRdTcuFull7 (s : State) : Host.Outcome State Fault Refusal :=
  .next (s.diagnosed (.unhandledRead .c7 .full) .read .word)

/-- `wr.w TCU_FULL(7), v` (R134). -/
def execWrTcuFull7 (data : Word) (s : State) : Host.Outcome State Fault Refusal :=
  .next (writeFull Config.params .c7 data s)

/-- `rd.w TCU_HALF(7)` (R132). -/
def execRdTcuHalf7 (s : State) : Host.Outcome State Fault Refusal :=
  .next (s.diagnosed (.unhandledRead .c7 .half) .read .word)

/-- `wr.w TCU_HALF(7), v` (R135). -/
def execWrTcuHalf7 (data : Word) (s : State) : Host.Outcome State Fault Refusal :=
  .next (writeHalf Config.params .c7 data s)

/-- `rd.w TCU_COUNT(7)` (R130). -/
def execRdTcuCount7 (s : State) : Host.Outcome State Fault Refusal :=
  .next (s.respond (.word (s.chan .c7).count))

/-- `wr.w TCU_COUNT(7), v` (R136). -/
def execWrTcuCount7 (data : Word) (s : State) : Host.Outcome State Fault Refusal :=
  .next (writeCount Config.params .c7 data s)

/-- `rd.w TCU_CTRL(7)` (R133). -/
def execRdTcuCtrl7 (s : State) : Host.Outcome State Fault Refusal :=
  .next (s.diagnosed (.unhandledRead .c7 .ctrl) .read .word)

/-- `wr.w TCU_CTRL(7), v` (R137). -/
def execWrTcuCtrl7 (data : Word) (s : State) : Host.Outcome State Fault Refusal :=
  .next (writeCtrl Config.params .c7 data s)

/-- `rd.w TCU_FULL(15)` (R131). -/
def execRdTcuFull15 (s : State) : Host.Outcome State Fault Refusal :=
  .next (s.diagnosed (.unhandledRead .ost .full) .read .word)

/-- `wr.w TCU_FULL(15), v` (R134). -/
def execWrTcuFull15 (data : Word) (s : State) : Host.Outcome State Fault Refusal :=
  .next (writeFull Config.params .ost data s)

/-- `rd.w TCU_HALF(15)` (R132). -/
def execRdTcuHalf15 (s : State) : Host.Outcome State Fault Refusal :=
  .next (s.diagnosed (.unhandledRead .ost .half) .read .word)

/-- `wr.w TCU_HALF(15), v` (R135). -/
def execWrTcuHalf15 (data : Word) (s : State) : Host.Outcome State Fault Refusal :=
  .next (writeHalf Config.params .ost data s)

/-- `rd.w TCU_COUNT(15)` (R130). -/
def execRdTcuCount15 (s : State) : Host.Outcome State Fault Refusal :=
  .next (s.respond (.word (s.chan .ost).count))

/-- `wr.w TCU_COUNT(15), v` (R136). -/
def execWrTcuCount15 (data : Word) (s : State) : Host.Outcome State Fault Refusal :=
  .next (writeCount Config.params .ost data s)

/-- `rd.w TCU_CTRL(15)` (R133). -/
def execRdTcuCtrl15 (s : State) : Host.Outcome State Fault Refusal :=
  .next (s.diagnosed (.unhandledRead .ost .ctrl) .read .word)

/-- `wr.w TCU_CTRL(15), v` (R137). -/
def execWrTcuCtrl15 (data : Word) (s : State) : Host.Outcome State Fault Refusal :=
  .next (writeCtrl Config.params .ost data s)

/-- TCU offset that names no register (41_tcu_channel.md R138). -/
def execTcuReserved (acc : Access) (off : BitVec 12) (s : State) :
    Host.Outcome State Fault Refusal :=
  .next (s.diagnosed (.unknownOffset .tcu off) acc .word)

end Sys2Proof.Machine
end

