-- ==== Sys2Proof/Machine/TcuGlobal.lean ====
section
/-! DEFINITION. The TCU global operations (42_tcu_global.md R151 to R167). -/
namespace Sys2Proof.Machine

/-- `rd.w TCU_ENABLE` (R163). -/
def execRdTcuEnable (s : State) : Host.Outcome State Fault Refusal :=
  .next (s.respond (.word s.enable))

/-- `wr.w TCU_ENABLE, v` (R151). -/
def execWrTcuEnable (data : Word) (s : State) : Host.Outcome State Fault Refusal :=
  .next (globalWrite Config.params .enable .whole data s)

/-- Read of the write-only register at `0x14` (R167). -/
def execRdTcuEnableSet (s : State) : Host.Outcome State Fault Refusal :=
  .next (s.diagnosed (.woRead .tcu 0x014#12) .read .word)

/-- `wr.w TCU_ENABLE_SET, v` (R152). -/
def execWrTcuEnableSet (data : Word) (s : State) : Host.Outcome State Fault Refusal :=
  .next (globalWrite Config.params .enable .set data s)

/-- Read of the write-only register at `0x18` (R167). -/
def execRdTcuEnableClr (s : State) : Host.Outcome State Fault Refusal :=
  .next (s.diagnosed (.woRead .tcu 0x018#12) .read .word)

/-- `wr.w TCU_ENABLE_CLR, v` (R153). -/
def execWrTcuEnableClr (data : Word) (s : State) : Host.Outcome State Fault Refusal :=
  .next (globalWrite Config.params .enable .clr data s)

/-- `rd.w TCU_STOP` (R164). -/
def execRdTcuStop (s : State) : Host.Outcome State Fault Refusal :=
  .next (s.respond (.word s.stop))

/-- `wr.w TCU_STOP, v` (R154). -/
def execWrTcuStop (data : Word) (s : State) : Host.Outcome State Fault Refusal :=
  .next (globalWrite Config.params .stop .whole data s)

/-- `rd.w TCU_FLAG` (R165). -/
def execRdTcuFlag (s : State) : Host.Outcome State Fault Refusal :=
  .next (s.respond (.word s.flag))

/-- `wr.w TCU_FLAG, v` (R157). -/
def execWrTcuFlag (data : Word) (s : State) : Host.Outcome State Fault Refusal :=
  .next (globalWrite Config.params .flag .whole data s)

/-- Read of the write-only register at `0x24` (R167). -/
def execRdTcuFlagSet (s : State) : Host.Outcome State Fault Refusal :=
  .next (s.diagnosed (.woRead .tcu 0x024#12) .read .word)

/-- `wr.w TCU_FLAG_SET, v` (R158). -/
def execWrTcuFlagSet (data : Word) (s : State) : Host.Outcome State Fault Refusal :=
  .next (globalWrite Config.params .flag .set data s)

/-- Read of the write-only register at `0x28` (R167). -/
def execRdTcuFlagClr (s : State) : Host.Outcome State Fault Refusal :=
  .next (s.diagnosed (.woRead .tcu 0x028#12) .read .word)

/-- `wr.w TCU_FLAG_CLR, v` (R159). -/
def execWrTcuFlagClr (data : Word) (s : State) : Host.Outcome State Fault Refusal :=
  .next (globalWrite Config.params .flag .clr data s)

/-- Read of the write-only register at `0x2c` (R167). -/
def execRdTcuStopSet (s : State) : Host.Outcome State Fault Refusal :=
  .next (s.diagnosed (.woRead .tcu 0x02c#12) .read .word)

/-- `wr.w TCU_STOP_SET, v` (R155). -/
def execWrTcuStopSet (data : Word) (s : State) : Host.Outcome State Fault Refusal :=
  .next (globalWrite Config.params .stop .set data s)

/-- `rd.w TCU_MASK` (R166). -/
def execRdTcuMask (s : State) : Host.Outcome State Fault Refusal :=
  .next (s.respond (.word s.mask))

/-- `wr.w TCU_MASK, v` (R160). -/
def execWrTcuMask (data : Word) (s : State) : Host.Outcome State Fault Refusal :=
  .next (globalWrite Config.params .mask .whole data s)

/-- Read of the write-only register at `0x34` (R167). -/
def execRdTcuMaskSet (s : State) : Host.Outcome State Fault Refusal :=
  .next (s.diagnosed (.woRead .tcu 0x034#12) .read .word)

/-- `wr.w TCU_MASK_SET, v` (R161). -/
def execWrTcuMaskSet (data : Word) (s : State) : Host.Outcome State Fault Refusal :=
  .next (globalWrite Config.params .mask .set data s)

/-- Read of the write-only register at `0x38` (R167). -/
def execRdTcuMaskClr (s : State) : Host.Outcome State Fault Refusal :=
  .next (s.diagnosed (.woRead .tcu 0x038#12) .read .word)

/-- `wr.w TCU_MASK_CLR, v` (R162). -/
def execWrTcuMaskClr (data : Word) (s : State) : Host.Outcome State Fault Refusal :=
  .next (globalWrite Config.params .mask .clr data s)

/-- Read of the write-only register at `0x3c` (R167). -/
def execRdTcuStopClr (s : State) : Host.Outcome State Fault Refusal :=
  .next (s.diagnosed (.woRead .tcu 0x03c#12) .read .word)

/-- `wr.w TCU_STOP_CLR, v` (R156). -/
def execWrTcuStopClr (data : Word) (s : State) : Host.Outcome State Fault Refusal :=
  .next (globalWrite Config.params .stop .clr data s)

end Sys2Proof.Machine
end

