-- ==== Sys2Proof/Machine/Tick.lean ====
section
/-! DEFINITION. The tick of each channel (43_tcu_tick.md R187). -/
namespace Sys2Proof.Machine

/-- `tick 0` (R187). -/
def execTick0 (s : State) : Host.Outcome State Fault Refusal :=
  .next (tick Config.params .c0 s)

/-- `tick 1` (R187). -/
def execTick1 (s : State) : Host.Outcome State Fault Refusal :=
  .next (tick Config.params .c1 s)

/-- `tick 2` (R187). -/
def execTick2 (s : State) : Host.Outcome State Fault Refusal :=
  .next (tick Config.params .c2 s)

/-- `tick 3` (R187). -/
def execTick3 (s : State) : Host.Outcome State Fault Refusal :=
  .next (tick Config.params .c3 s)

/-- `tick 4` (R187). -/
def execTick4 (s : State) : Host.Outcome State Fault Refusal :=
  .next (tick Config.params .c4 s)

/-- `tick 5` (R187). -/
def execTick5 (s : State) : Host.Outcome State Fault Refusal :=
  .next (tick Config.params .c5 s)

/-- `tick 6` (R187). -/
def execTick6 (s : State) : Host.Outcome State Fault Refusal :=
  .next (tick Config.params .c6 s)

/-- `tick 7` (R187). -/
def execTick7 (s : State) : Host.Outcome State Fault Refusal :=
  .next (tick Config.params .c7 s)

/-- `tick 15` (R187). -/
def execTick15 (s : State) : Host.Outcome State Fault Refusal :=
  .next (tick Config.params .ost s)

end Sys2Proof.Machine
end

