-- ==== Sys2Proof/Machine/Dispatch.lean ====
section
/-! DEFINITION. One arm per operation: the call of its meaning. -/
namespace Sys2Proof.Machine

/-- What an operation does. -/
def exec (i : Instr) (s : State) : Host.Outcome State Fault Refusal :=
  match i with
  | .tick0 => Sys2Proof.Machine.execTick0 s
  | .tick1 => Sys2Proof.Machine.execTick1 s
  | .tick2 => Sys2Proof.Machine.execTick2 s
  | .tick3 => Sys2Proof.Machine.execTick3 s
  | .tick4 => Sys2Proof.Machine.execTick4 s
  | .tick5 => Sys2Proof.Machine.execTick5 s
  | .tick6 => Sys2Proof.Machine.execTick6 s
  | .tick7 => Sys2Proof.Machine.execTick7 s
  | .tick15 => Sys2Proof.Machine.execTick15 s
  | .req lv idx => Sys2Proof.Machine.execReq lv idx s
  | .reset => Sys2Proof.Machine.execReset s
  | .reservedEvent ek payload => Sys2Proof.Machine.execReservedEvent ek payload s
  | .rdCgu sz off => Sys2Proof.Machine.execRdCgu sz off s
  | .wrCgu sz off data => Sys2Proof.Machine.execWrCgu sz off data s
  | .intcUnsupported acc sz off => Sys2Proof.Machine.execIntcUnsupported acc sz off s
  | .tcuUnsupported acc sz off => Sys2Proof.Machine.execTcuUnsupported acc sz off s
  | .rdIntcSource b => Sys2Proof.Machine.execRdIntcSource b s
  | .wrIntcSource b data => Sys2Proof.Machine.execWrIntcSource b data s
  | .rdIntcMask b => Sys2Proof.Machine.execRdIntcMask b s
  | .wrIntcMask b data => Sys2Proof.Machine.execWrIntcMask b data s
  | .rdIntcMaskSet b => Sys2Proof.Machine.execRdIntcMaskSet b s
  | .wrIntcMaskSet b data => Sys2Proof.Machine.execWrIntcMaskSet b data s
  | .rdIntcMaskClr b => Sys2Proof.Machine.execRdIntcMaskClr b s
  | .wrIntcMaskClr b data => Sys2Proof.Machine.execWrIntcMaskClr b data s
  | .rdIntcPending b => Sys2Proof.Machine.execRdIntcPending b s
  | .wrIntcPending b data => Sys2Proof.Machine.execWrIntcPending b data s
  | .intcReserved14 acc b => Sys2Proof.Machine.execIntcReserved14 acc b s
  | .intcReserved18 acc b => Sys2Proof.Machine.execIntcReserved18 acc b s
  | .intcReserved1c acc b => Sys2Proof.Machine.execIntcReserved1c acc b s
  | .intcBankRange acc off => Sys2Proof.Machine.execIntcBankRange acc off s
  | .rdTcuEnable => Sys2Proof.Machine.execRdTcuEnable s
  | .wrTcuEnable data => Sys2Proof.Machine.execWrTcuEnable data s
  | .rdTcuEnableSet => Sys2Proof.Machine.execRdTcuEnableSet s
  | .wrTcuEnableSet data => Sys2Proof.Machine.execWrTcuEnableSet data s
  | .rdTcuEnableClr => Sys2Proof.Machine.execRdTcuEnableClr s
  | .wrTcuEnableClr data => Sys2Proof.Machine.execWrTcuEnableClr data s
  | .rdTcuStop => Sys2Proof.Machine.execRdTcuStop s
  | .wrTcuStop data => Sys2Proof.Machine.execWrTcuStop data s
  | .rdTcuFlag => Sys2Proof.Machine.execRdTcuFlag s
  | .wrTcuFlag data => Sys2Proof.Machine.execWrTcuFlag data s
  | .rdTcuFlagSet => Sys2Proof.Machine.execRdTcuFlagSet s
  | .wrTcuFlagSet data => Sys2Proof.Machine.execWrTcuFlagSet data s
  | .rdTcuFlagClr => Sys2Proof.Machine.execRdTcuFlagClr s
  | .wrTcuFlagClr data => Sys2Proof.Machine.execWrTcuFlagClr data s
  | .rdTcuStopSet => Sys2Proof.Machine.execRdTcuStopSet s
  | .wrTcuStopSet data => Sys2Proof.Machine.execWrTcuStopSet data s
  | .rdTcuMask => Sys2Proof.Machine.execRdTcuMask s
  | .wrTcuMask data => Sys2Proof.Machine.execWrTcuMask data s
  | .rdTcuMaskSet => Sys2Proof.Machine.execRdTcuMaskSet s
  | .wrTcuMaskSet data => Sys2Proof.Machine.execWrTcuMaskSet data s
  | .rdTcuMaskClr => Sys2Proof.Machine.execRdTcuMaskClr s
  | .wrTcuMaskClr data => Sys2Proof.Machine.execWrTcuMaskClr data s
  | .rdTcuStopClr => Sys2Proof.Machine.execRdTcuStopClr s
  | .wrTcuStopClr data => Sys2Proof.Machine.execWrTcuStopClr data s
  | .rdTcuFull0 => Sys2Proof.Machine.execRdTcuFull0 s
  | .wrTcuFull0 data => Sys2Proof.Machine.execWrTcuFull0 data s
  | .rdTcuHalf0 => Sys2Proof.Machine.execRdTcuHalf0 s
  | .wrTcuHalf0 data => Sys2Proof.Machine.execWrTcuHalf0 data s
  | .rdTcuCount0 => Sys2Proof.Machine.execRdTcuCount0 s
  | .wrTcuCount0 data => Sys2Proof.Machine.execWrTcuCount0 data s
  | .rdTcuCtrl0 => Sys2Proof.Machine.execRdTcuCtrl0 s
  | .wrTcuCtrl0 data => Sys2Proof.Machine.execWrTcuCtrl0 data s
  | .rdTcuFull1 => Sys2Proof.Machine.execRdTcuFull1 s
  | .wrTcuFull1 data => Sys2Proof.Machine.execWrTcuFull1 data s
  | .rdTcuHalf1 => Sys2Proof.Machine.execRdTcuHalf1 s
  | .wrTcuHalf1 data => Sys2Proof.Machine.execWrTcuHalf1 data s
  | .rdTcuCount1 => Sys2Proof.Machine.execRdTcuCount1 s
  | .wrTcuCount1 data => Sys2Proof.Machine.execWrTcuCount1 data s
  | .rdTcuCtrl1 => Sys2Proof.Machine.execRdTcuCtrl1 s
  | .wrTcuCtrl1 data => Sys2Proof.Machine.execWrTcuCtrl1 data s
  | .rdTcuFull2 => Sys2Proof.Machine.execRdTcuFull2 s
  | .wrTcuFull2 data => Sys2Proof.Machine.execWrTcuFull2 data s
  | .rdTcuHalf2 => Sys2Proof.Machine.execRdTcuHalf2 s
  | .wrTcuHalf2 data => Sys2Proof.Machine.execWrTcuHalf2 data s
  | .rdTcuCount2 => Sys2Proof.Machine.execRdTcuCount2 s
  | .wrTcuCount2 data => Sys2Proof.Machine.execWrTcuCount2 data s
  | .rdTcuCtrl2 => Sys2Proof.Machine.execRdTcuCtrl2 s
  | .wrTcuCtrl2 data => Sys2Proof.Machine.execWrTcuCtrl2 data s
  | .rdTcuFull3 => Sys2Proof.Machine.execRdTcuFull3 s
  | .wrTcuFull3 data => Sys2Proof.Machine.execWrTcuFull3 data s
  | .rdTcuHalf3 => Sys2Proof.Machine.execRdTcuHalf3 s
  | .wrTcuHalf3 data => Sys2Proof.Machine.execWrTcuHalf3 data s
  | .rdTcuCount3 => Sys2Proof.Machine.execRdTcuCount3 s
  | .wrTcuCount3 data => Sys2Proof.Machine.execWrTcuCount3 data s
  | .rdTcuCtrl3 => Sys2Proof.Machine.execRdTcuCtrl3 s
  | .wrTcuCtrl3 data => Sys2Proof.Machine.execWrTcuCtrl3 data s
  | .rdTcuFull4 => Sys2Proof.Machine.execRdTcuFull4 s
  | .wrTcuFull4 data => Sys2Proof.Machine.execWrTcuFull4 data s
  | .rdTcuHalf4 => Sys2Proof.Machine.execRdTcuHalf4 s
  | .wrTcuHalf4 data => Sys2Proof.Machine.execWrTcuHalf4 data s
  | .rdTcuCount4 => Sys2Proof.Machine.execRdTcuCount4 s
  | .wrTcuCount4 data => Sys2Proof.Machine.execWrTcuCount4 data s
  | .rdTcuCtrl4 => Sys2Proof.Machine.execRdTcuCtrl4 s
  | .wrTcuCtrl4 data => Sys2Proof.Machine.execWrTcuCtrl4 data s
  | .rdTcuFull5 => Sys2Proof.Machine.execRdTcuFull5 s
  | .wrTcuFull5 data => Sys2Proof.Machine.execWrTcuFull5 data s
  | .rdTcuHalf5 => Sys2Proof.Machine.execRdTcuHalf5 s
  | .wrTcuHalf5 data => Sys2Proof.Machine.execWrTcuHalf5 data s
  | .rdTcuCount5 => Sys2Proof.Machine.execRdTcuCount5 s
  | .wrTcuCount5 data => Sys2Proof.Machine.execWrTcuCount5 data s
  | .rdTcuCtrl5 => Sys2Proof.Machine.execRdTcuCtrl5 s
  | .wrTcuCtrl5 data => Sys2Proof.Machine.execWrTcuCtrl5 data s
  | .rdTcuFull6 => Sys2Proof.Machine.execRdTcuFull6 s
  | .wrTcuFull6 data => Sys2Proof.Machine.execWrTcuFull6 data s
  | .rdTcuHalf6 => Sys2Proof.Machine.execRdTcuHalf6 s
  | .wrTcuHalf6 data => Sys2Proof.Machine.execWrTcuHalf6 data s
  | .rdTcuCount6 => Sys2Proof.Machine.execRdTcuCount6 s
  | .wrTcuCount6 data => Sys2Proof.Machine.execWrTcuCount6 data s
  | .rdTcuCtrl6 => Sys2Proof.Machine.execRdTcuCtrl6 s
  | .wrTcuCtrl6 data => Sys2Proof.Machine.execWrTcuCtrl6 data s
  | .rdTcuFull7 => Sys2Proof.Machine.execRdTcuFull7 s
  | .wrTcuFull7 data => Sys2Proof.Machine.execWrTcuFull7 data s
  | .rdTcuHalf7 => Sys2Proof.Machine.execRdTcuHalf7 s
  | .wrTcuHalf7 data => Sys2Proof.Machine.execWrTcuHalf7 data s
  | .rdTcuCount7 => Sys2Proof.Machine.execRdTcuCount7 s
  | .wrTcuCount7 data => Sys2Proof.Machine.execWrTcuCount7 data s
  | .rdTcuCtrl7 => Sys2Proof.Machine.execRdTcuCtrl7 s
  | .wrTcuCtrl7 data => Sys2Proof.Machine.execWrTcuCtrl7 data s
  | .rdTcuFull15 => Sys2Proof.Machine.execRdTcuFull15 s
  | .wrTcuFull15 data => Sys2Proof.Machine.execWrTcuFull15 data s
  | .rdTcuHalf15 => Sys2Proof.Machine.execRdTcuHalf15 s
  | .wrTcuHalf15 data => Sys2Proof.Machine.execWrTcuHalf15 data s
  | .rdTcuCount15 => Sys2Proof.Machine.execRdTcuCount15 s
  | .wrTcuCount15 data => Sys2Proof.Machine.execWrTcuCount15 data s
  | .rdTcuCtrl15 => Sys2Proof.Machine.execRdTcuCtrl15 s
  | .wrTcuCtrl15 data => Sys2Proof.Machine.execWrTcuCtrl15 data s
  | .tcuReserved acc off => Sys2Proof.Machine.execTcuReserved acc off s
  | .notThisBlock acc sz unit off => Sys2Proof.Machine.execNotThisBlock acc sz unit off s

end Sys2Proof.Machine
end

