-- ==== Sys2Proof/Machine/Step.lean ====
section
/-! DEFINITION. One step of the block (20_memory.md R59, R60). -/
namespace Sys2Proof.Machine

/-- One step: the oldest operation that has arrived is decoded and takes effect whole (R59, R60). Where none
has arrived, nothing happens (10_state.md R21, R41; log entry 2). -/
def step (s : State) : Host.Outcome State Fault Refusal :=
  match fetch s with
  | none => .next s
  | some (op, t) => exec (decode op) t

/-- The state in which the operation of a word of `nbits` bits has arrived ahead of every other; a word that is
no operation arrives not at all (log entries 1, 3). -/
def State.withFetchWord (s : State) (nbits w : Nat) : State :=
  match readTableWord nbits w with
  | .ok op => { s with inputs := op :: s.inputs }
  | .error _ => s

end Sys2Proof.Machine
end

