-- ==== Sys2Proof/Machine/Asm.lean ====
section
/-! DEFINITION. The textual form's lines and the pseudo-operations (30_encoding.md R79, R80), as data: one
line is one operation, a pseudo-operation is a sequence of them. The characters of a line are not
parsed (log entry 21). -/
namespace Sys2Proof.Machine

/-- `<unit>` of a line (R79). -/
inductive AsmUnit | cgu | intc | tcu
deriving DecidableEq, Repr

/-- The code `UNIT` of a unit (R71). -/
def AsmUnit.code : AsmUnit → BitVec 4
  | .cgu => 0#4
  | .intc => 1#4
  | .tcu => 2#4

/-- The register names of the maps (10_state.md R42, R43, decision D23). -/
inductive RegName
  | intcSource (b : Bank) | intcMask (b : Bank) | intcMaskSet (b : Bank) | intcMaskClr (b : Bank)
  | intcPending (b : Bank)
  | tcuEnable | tcuEnableSet | tcuEnableClr | tcuStop | tcuFlag | tcuFlagSet | tcuFlagClr | tcuStopSet
  | tcuMask | tcuMaskSet | tcuMaskClr | tcuStopClr
  | tcuFull (c : Chan) | tcuHalf (c : Chan) | tcuCount (c : Chan) | tcuCtrl (c : Chan)
deriving DecidableEq, Repr

/-- Offset of register `r` of channel `c`: `0x40 + 0x10*c + r` (R43). -/
def chanOffset (c : Chan) (r : Nat) : BitVec 12 := BitVec.ofNat 12 (0x40 + 0x10 * c.index + r)

/-- The unit and offset a register name stands for (R42, R43, R79). -/
def RegName.place : RegName → AsmUnit × BitVec 12
  | .intcSource b => (.intc, intcOffset b 0x00)
  | .intcMask b => (.intc, intcOffset b 0x04)
  | .intcMaskSet b => (.intc, intcOffset b 0x08)
  | .intcMaskClr b => (.intc, intcOffset b 0x0c)
  | .intcPending b => (.intc, intcOffset b 0x10)
  | .tcuEnable => (.tcu, 0x010#12)
  | .tcuEnableSet => (.tcu, 0x014#12)
  | .tcuEnableClr => (.tcu, 0x018#12)
  | .tcuStop => (.tcu, 0x01c#12)
  | .tcuFlag => (.tcu, 0x020#12)
  | .tcuFlagSet => (.tcu, 0x024#12)
  | .tcuFlagClr => (.tcu, 0x028#12)
  | .tcuStopSet => (.tcu, 0x02c#12)
  | .tcuMask => (.tcu, 0x030#12)
  | .tcuMaskSet => (.tcu, 0x034#12)
  | .tcuMaskClr => (.tcu, 0x038#12)
  | .tcuStopClr => (.tcu, 0x03c#12)
  | .tcuFull c => (.tcu, chanOffset c 0x0)
  | .tcuHalf c => (.tcu, chanOffset c 0x4)
  | .tcuCount c => (.tcu, chanOffset c 0x8)
  | .tcuCtrl c => (.tcu, chanOffset c 0xc)

/-- A line of the textual form (R79). -/
inductive AsmLine
  | rd (sz : Size) (unit : AsmUnit) (off : BitVec 12)
  | wr (sz : Size) (unit : AsmUnit) (off : BitVec 12) (data : Word)
  | tick (c : Chan)
  | req (idx : BitVec 8) (lv : Bool)
  | reset
deriving DecidableEq, Repr

/-- The operation of a line (R79). -/
def AsmLine.operation : AsmLine → Operation
  | .rd sz unit off => busOp .read sz unit.code off
  | .wr sz unit off v => busOp (.write v) sz unit.code off
  | .tick c => tickOp c
  | .req idx lv => reqOp lv idx
  | .reset => eventOp 2#3 0#16

/-- `rd.w <register>` (R79). -/
def AsmLine.rdReg (r : RegName) : AsmLine := .rd .word r.place.1 r.place.2

/-- `wr.w <register>, <data>` (R79). -/
def AsmLine.wrReg (r : RegName) (v : Word) : AsmLine := .wr .word r.place.1 r.place.2 v

/-- The pseudo-operations (R80). -/
inductive Pseudo
  | tcuEn (c : Chan)
  | tcuDis (c : Chan)
  | tcuAck (bits : Word)
  | tcuUnmask (bits : Word)
  | tcuMask (bits : Word)
  | tcuSetup (c : Chan) (full half : Word)
  | intcUnmask (b : Bank) (bits : Word)
  | intcMask (b : Bank) (bits : Word)
  | intcRaise (idx : BitVec 8)
  | intcLower (idx : BitVec 8)
deriving DecidableEq, Repr

/-- The lines a pseudo-operation expands to, in order, one step each (R80). -/
def Pseudo.expand : Pseudo → List AsmLine
  | .tcuEn c => [.wr .word .tcu 0x014#12 (bit c.index)]
  | .tcuDis c => [.wr .word .tcu 0x018#12 (bit c.index)]
  | .tcuAck bits => [.wr .word .tcu 0x028#12 bits]
  | .tcuUnmask bits => [.wr .word .tcu 0x038#12 bits]
  | .tcuMask bits => [.wr .word .tcu 0x034#12 bits]
  | .tcuSetup c full half => [.wrReg (.tcuFull c) full, .wrReg (.tcuHalf c) half]
  | .intcUnmask b bits => [.wr .word .intc (intcOffset b 0x0c) bits]
  | .intcMask b bits => [.wr .word .intc (intcOffset b 0x08) bits]
  | .intcRaise idx => [.req idx true]
  | .intcLower idx => [.req idx false]

/-- The order of operations for an interrupt of channel `c` on line `k` without a spurious one, with
thresholds `full` and `half`, the flag bits to unmask, and the optional start count written as 0
(70_reset_and_hazards.md R234). -/
def bootSequence (P : Params) (c : Chan) (k : Line) (full half bits : Word) : List AsmLine :=
  [ .wrReg (.tcuFull c) full, .wrReg (.tcuHalf c) half,
    .wrReg (.tcuCount c) 0#32,
    .wrReg .tcuFlagClr (overBit c ||| bit (16 + c.index)),
    .wrReg .tcuMaskClr bits,
    .wrReg .tcuEnableSet (bit c.index),
    .wrReg (.intcMaskClr .b0) (bit (lineSource P k).val) ]

end Sys2Proof.Machine
end

