-- ==== Sys2Proof/Safety.lean ====
section
/-! DEFINITION. What counts as a good state and a good run, and the words the statements use: the block's
invariants (10_state.md R26, R29, R30, R37, R38, 43_tcu_tick.md R191), the effects of the recomputes said
in one piece, and what one part of the state may not observe of another. -/
namespace Sys2Proof.Safety
open Sys2Proof.Machine

/-! The invariants -/

/-- `pending = source & ~mask` and `irq_out = (pending != 0)` for every bank (R26). -/
def IntcConsistent (s : State) : Prop :=
  ∀ b, (s.bank b).pending = (s.bank b).source &&& ~~~(s.bank b).mask ∧
    ((s.bank b).irqOut = true ↔ (s.bank b).pending ≠ 0#32)

/-- Each output line is the OR of its unmasked flag bits (R37, R183 to R185). -/
def LinesFollowFlags (s : State) : Prop :=
  (s.line.l0 = true ↔ (s.flag &&& ~~~s.mask) &&& 0x00008000#32 ≠ 0#32) ∧
  (s.line.l1 = true ↔ (s.flag &&& ~~~s.mask) &&& 0x00200020#32 ≠ 0#32) ∧
  (s.line.l2 = true ↔ (s.flag &&& ~~~s.mask) &&& 0x00DF00DF#32 ≠ 0#32)

/-- `intc.source[0][TCU_IRQ_SRC[k]] = tcu.line[k]` (R37). -/
def InputsFollowLines (P : Params) (s : State) : Prop :=
  s.intc.b0.source.getLsbD P.irqSrc0.val = s.line.l0 ∧
  s.intc.b0.source.getLsbD P.irqSrc1.val = s.line.l1 ∧
  s.intc.b0.source.getLsbD P.irqSrc2.val = s.line.l2

/-- `count = 0` or `count <u full` for every channel (R191). -/
def CountsBelowFull (s : State) : Prop :=
  ∀ c, (s.chan c).count = 0#32 ∨ (s.chan c).count < (s.chan c).full

/-- `full <= 0xFFFF` and `half <= 0xFFFF` for every channel (R29, R30). -/
def ThresholdsNarrow (s : State) : Prop :=
  ∀ c, (s.chan c).full ≤ 0x0000FFFF#32 ∧ (s.chan c).half ≤ 0x0000FFFF#32

/-- Every channel's next tick is scheduled (R38). -/
def TicksScheduled (s : State) : Prop := ∀ c, (s.chan c).tickArmed = true

/-- The invariant of the block after every step. -/
structure Inv (s : State) : Prop where
  intc : IntcConsistent s
  lines : LinesFollowFlags s
  wires : InputsFollowLines Config.params s
  counts : CountsBelowFull s
  thresholds : ThresholdsNarrow s
  ticks : TicksScheduled s

/-! Effects said in one piece -/

/-- A bank with its source and mask as given, its pending word and line recomputed (40_intc.md R100). -/
def bankOf (source mask : Word) : IntcBank :=
  { source := source, mask := mask, pending := source &&& ~~~mask,
    irqOut := decide (source &&& ~~~mask ≠ 0#32) }

/-- The word `w` with bit `i` at level `lv`. -/
def withBit (w : Word) (i : Nat) (lv : Bool) : Word := if lv then w ||| bit i else w &&& ~~~bit i

/-- The state with its lines, and the three bank-0 inputs they drive, at the levels of the flag and mask
words, and bank 0 recomputed (43_tcu_tick.md R182 to R186). -/
def withLines (P : Params) (s : State) : State :=
  let a := s.flag &&& ~~~s.mask
  let v0 := decide (a &&& 0x00008000#32 ≠ 0#32)
  let v1 := decide (a &&& 0x00200020#32 ≠ 0#32)
  let v2 := decide (a &&& 0x00DF00DF#32 ≠ 0#32)
  let source :=
    withBit (withBit (withBit s.intc.b0.source P.irqSrc0.val v0) P.irqSrc1.val v1) P.irqSrc2.val v2
  { s with
    line := { l0 := v0, l1 := v1, l2 := v2 }
    intc := { s.intc with b0 := bankOf source s.intc.b0.mask } }

/-- Channel `c` given the record `r` and recomputed: half test, full test, reset to 0 (R180). -/
def withChannel (c : Chan) (r : Channel) (s : State) : State :=
  { s.setChan c (if r.full ≤ r.count then { r with count := 0#32 } else r) with
    flag := s.flag ||| (if c ≠ .ost ∧ r.half ≤ r.count then bit (16 + c.index) else 0#32)
      ||| (if r.full ≤ r.count then bit c.index else 0#32) }

/-- Every channel recomputed, one after the other (R181). -/
def withAllChannels (s : State) : State :=
  Chan.all.foldl (fun t c => withChannel c (t.chan c) t) s

/-- Channel `c`'s overflow condition (R180). -/
def Overflows (s : State) (c : Chan) : Prop := (s.chan c).full ≤ (s.chan c).count

/-- Channel `c`'s half-overflow condition, which the OS timer does not have (R180). -/
def HalfOverflows (s : State) (c : Chan) : Prop := c ≠ .ost ∧ (s.chan c).half ≤ (s.chan c).count

/-! Kinds of operations -/

/-- A bus read: `L[19] = 0` and `W = 0` (30_encoding.md R71). -/
def isBusRead (i : Instr) : Bool :=
  !(encode i).label.getLsbD 19 && !(encode i).label.getLsbD 18

/-- `n` ticks of channel `c` in a row. -/
def ticks (c : Chan) : Nat → State → Host.Outcome State Fault Refusal
  | 0, s => .next s
  | n + 1, s =>
    match ticks c n s with
    | .next t => exec (Instr.tickAt c) t
    | .fault r => .fault r
    | .refused r => .refused r

/-- `n` ticks of channel `c` in a row, in a block with the parameters `P`. -/
def tickMany (P : Params) (c : Chan) : Nat → State → State
  | 0, s => s
  | n + 1, s => tick P c (tickMany P c n s)

/-! What is never observed -/

/-- An outcome with a function applied to its next state. -/
def mapNext (f : State → State) : Host.Outcome State Fault Refusal → Host.Outcome State Fault Refusal
  | .next s => .next (f s)
  | .fault r => .fault r
  | .refused r => .refused r

/-- The state with every ctrl register and the OS timer's half register replaced by 0 (10_state.md R30,
R31: no rule reads them). -/
def eraseUnread (s : State) : State :=
  let z (r : Channel) : Channel := { r with ctrl := 0#32 }
  { s with ch :=
    { c0 := z s.ch.c0, c1 := z s.ch.c1, c2 := z s.ch.c2, c3 := z s.ch.c3, c4 := z s.ch.c4
      c5 := z s.ch.c5, c6 := z s.ch.c6, c7 := z s.ch.c7
      ost := { s.ch.ost with ctrl := 0#32, half := 0#32 } } }

/-- The state with the stop word replaced by 0 (10_state.md R34). -/
def eraseStop (s : State) : State := { s with stop := 0#32 }

/-- The state without its two logs (10_state.md R39); its read result stays. -/
def eraseLogs (s : State) : State := { s with diags := [], cguLog := [] }

/-- The state with older records put before those of its two logs. -/
def afterLogs (ds : List Diag) (gs : List CguAccess) (s : State) : State :=
  { s with diags := ds ++ s.diags, cguLog := gs ++ s.cguLog }

/-! Runs -/

/-- A safe run: the operations that wait are all taken, none is refused, and the block is in a good state
at the end. -/
def SafeRun (s : State) : Prop :=
  ∃ t : State, Sys2Proof.core.run s.inputs.length s = .next t ∧ Inv t

/-- Weak fairness of tick delivery, an assumption on an infinite stream of arriving operations: every
channel of CH ticks infinitely often (43_tcu_tick.md R188, decision D31; log entry 10). -/
def WeaklyFair (arrivals : Nat → Operation) : Prop :=
  ∀ (c : Chan) (n : Nat), ∃ m, n ≤ m ∧ decode (arrivals m) = Instr.tickAt c

end Sys2Proof.Safety
end

