-- ==== Sys2Proof/Certificates/Slice0/Obligations.lean ====
section
/-! DEFINITION. The statements about the block, for the provers. The block has no memory (20_memory.md R53)
and no general registers (10_state.md R20): a frame below is the equality of a next state with the state
before, but for the fields it names. -/
open Sys2Proof Sys2Proof.Machine Sys2Proof.Safety

/-! ## Encoding -/

/-- 30_encoding.md R70 to R74, R77, R78: no bit of a well-formed operation's encoding is dropped. -/
def Obligations.EncodedOperationDecodesToItself : Prop :=
  ∀ i : Instr, i.wellFormed = true → decode (encode i) = i

/-- R70 to R74, R77: a label has one meaning, so encoding what was decoded gives the label back, with the
data word that only a bus write uses. -/
def Obligations.DecodedOperationEncodesBack : Prop :=
  ∀ op : Operation, encode (decode op) = op.normal

/-- R77, R78: decode is total, and what it gives is an operation that an encoding names. -/
def Obligations.DecodeGivesWellFormedOperations : Prop :=
  ∀ op : Operation, (decode op).wellFormed = true

/-- Words written out from the spec's encodings, one or more for each family (R71 to R74). -/
def Obligations.SpecWordsDecode : Prop :=
  decode ⟨0x80005#20, 0#32⟩ = .tick5 ∧
  decode ⟨0x90103#20, 0#32⟩ = .req true 3#8 ∧
  decode ⟨0xA0000#20, 0#32⟩ = .reset ∧
  decode ⟨0x6102c#20, 1#32⟩ = .wrIntcMaskClr .b1 1#32 ∧
  decode ⟨0x21030#20, 0#32⟩ = .rdIntcPending .b1 ∧
  decode ⟨0x62028#20, 7#32⟩ = .wrTcuFlagClr 7#32 ∧
  decode ⟨0x62098#20, 9#32⟩ = .wrTcuCount5 9#32 ∧
  decode ⟨0x22138#20, 0#32⟩ = .rdTcuCount15 ∧
  decode ⟨0x02098#20, 0#32⟩ = .tcuUnsupported .read .byte 0x098#12 ∧
  decode ⟨0x620c8#20, 5#32⟩ = .tcuReserved (.write 5#32) 0x0c8#12 ∧
  decode ⟨0x80008#20, 0#32⟩ = .reservedEvent 0#3 8#16 ∧
  decode ⟨0x22200#20, 0#32⟩ = .notThisBlock .read .word 2#4 0x200#12

/-- 30_encoding.md R71: an address has a label exactly if it lies in `0x1000_0000` to `0x1000_2fff`, and the label
carries the address bits 15:0 as UNIT and OFF, the access' size and direction, and the class BUS. -/
def Obligations.AddressBitsAreLabelBits : Prop :=
  ∀ (acc : Access) (sz : Size) (pa : BitVec 32),
    ((accessOp acc sz pa).isSome = true ↔ 0x10000000 ≤ pa.toNat ∧ pa.toNat ≤ 0x10002fff) ∧
    ∀ op : Operation, accessOp acc sz pa = some op →
      op.label.extractLsb' 0 16 = pa.extractLsb' 0 16 ∧
      op.label.extractLsb' 16 2 = sz.code ∧
      op.label.getLsbD 18 = acc.isWrite ∧
      op.label.getLsbD 19 = false ∧
      op.data = acc.data

/-- 20_memory.md R51 to R53, R64: exactly the addresses of the three windows reach a unit, at the offset
`pa - base`; the label of an address reaches that unit and offset, and decodes to an access outside the block
exactly if the address lies in no window. -/
def Obligations.OnlyWindowAddressesReachAUnit : Prop :=
  ∀ (acc : Access) (sz : Size) (pa : BitVec 32),
    ((unitOfAddress pa).isSome = true ↔
      (0x10000000 ≤ pa.toNat ∧ pa.toNat < 0x10000100) ∨
      (0x10001000 ≤ pa.toNat ∧ pa.toNat < 0x10002000) ∨
      (0x10002000 ≤ pa.toNat ∧ pa.toNat < 0x10002200)) ∧
    (∀ unit off, unitOfAddress pa = some (unit, off) →
      pa.toNat = 0x10000000 + 0x1000 * unit.toNat + off.toNat ∧
      accessOp acc sz pa = some (busOp acc sz unit off)) ∧
    ∀ op, accessOp acc sz pa = some op →
      ((∃ a z unit off, decode op = .notThisBlock a z unit off) ↔ unitOfAddress pa = none)

/-! ## Steps -/

/-- 20_memory.md R59, R60: a step takes the oldest operation that has arrived, and does what it decodes to
on the state from which it is taken. -/
def Obligations.StepRunsTheDecodedOperation : Prop :=
  ∀ (s : State) (op : Operation) (rest : List Operation), s.inputs = op :: rest →
    step s = exec (decode op) { s with inputs := rest }

/-- The model's choice (log entries 1 and 3): a word placed as the next operation is what the next step runs,
on the state in which it was placed. -/
def Obligations.StepRunsThePlacedWord : Prop :=
  ∀ (s : State) (nbits w : Nat) (i : Instr), decodeTableWord nbits w = some i →
    step (s.withFetchWord nbits w) = exec i s

/-- 10_state.md R21, R41, in the model's form (log entry 2): a step with no operation waiting changes
nothing. -/
def Obligations.StepWithoutOperationIsIdle : Prop :=
  ∀ s : State, s.inputs = [] → step s = .next s

/-! ## What each operation does -/

/-- 43_tcu_tick.md R187: a tick adds the increment to an enabled channel's count, recomputes the channel and
the lines, and leaves the channel's next tick scheduled; nothing else changes. -/
def Obligations.TickResult : Prop :=
  ∀ (c : Chan) (s : State),
    let K := Config.params.tickIncrement
    let r := s.chan c
    let n := if s.enable.getLsbD c.index then r.count + K else r.count
    exec (Instr.tickAt c) s =
      .next (withLines Config.params (withChannel c { r with count := n, tickArmed := true } s))

/-- 40_intc.md R101: a request to an input of the INTC that no TCU line drives sets that input's source bit
to the level and recomputes its bank; nothing else changes. -/
def Obligations.RequestDrivesItsInput : Prop :=
  ∀ (lv : Bool) (idx : BitVec 8) (s : State), idx.toNat < 64 →
    (∀ k, idx.toNat ≠ (lineSource Config.params k).val) →
    exec (.req lv idx) s = .next
      (if idx.toNat < 32 then
        { s with intc := { s.intc with
            b0 := bankOf (withBit s.intc.b0.source idx.toNat lv) s.intc.b0.mask } }
      else
        { s with intc := { s.intc with
            b1 := bankOf (withBit s.intc.b1.source (idx.toNat - 32) lv) s.intc.b1.mask } })

/-- R101 corner case (d): a request whose index is out of range changes nothing but the record it leaves. -/
def Obligations.RequestOutOfRangeIsDropped : Prop :=
  ∀ (lv : Bool) (idx : BitVec 8) (s : State), 64 ≤ idx.toNat →
    exec (.req lv idx) s = .next { s with diags := s.diags ++ [.reqRange idx] }

/-- R101 corner case (c): a request to an input that a TCU line drives is refused. -/
def Obligations.RequestToTcuInputIsRefused : Prop :=
  ∀ (lv : Bool) (k : Line) (s : State),
    exec (.req lv (BitVec.ofNat 8 (lineSource Config.params k).val)) s =
      .refused (.tcuDrivenInput (BitVec.ofNat 8 (lineSource Config.params k).val))

/-- 70_reset_and_hazards.md R230, 10_state.md section 7: RESET puts every register at its reset value and
leaves the tick schedule as it is; that the read result, the logs and the waiting operations stay is the
model's choice (log entry 17). -/
def Obligations.ResetResult : Prop :=
  ∀ s : State, ∃ t, exec .reset s = .next t ∧
    (∀ b, t.bank b = ⟨0x00000000#32, 0xFFFFFFFF#32, 0x00000000#32, false⟩) ∧
    (∀ c, t.chan c = ⟨0#32, 0#32, 0#32, 0#32, (s.chan c).tickArmed⟩) ∧
    t.enable = 0x00000000#32 ∧ t.flag = 0x00000000#32 ∧
    t.stop = 0xFFFFFFFF#32 ∧ t.mask = 0xFFFFFFFF#32 ∧
    t.line = ⟨false, false, false⟩ ∧
    t.rdata = s.rdata ∧ t.diags = s.diags ∧ t.cguLog = s.cguLog ∧ t.inputs = s.inputs

/-- 20_memory.md R52: the CGU logs every access and answers reads with 0; no register of the block changes
(what the log's records hold is the model's, log entry 6). -/
def Obligations.CguAccessesChangeNoBlockState : Prop :=
  ∀ (sz : Size) (off : BitVec 12) (v : Word) (s : State),
    exec (.rdCgu sz off) s =
      .next { s with cguLog := s.cguLog ++ [⟨.read, sz, off⟩], rdata := RData.zero sz } ∧
    exec (.wrCgu sz off v) s = .next { s with cguLog := s.cguLog ++ [⟨.write v, sz, off⟩] } ∧
    ((RData.zero sz).bytes = List.replicate sz.bytes 0#8)

/-- R55: an access of an unsupported size or alignment answers zero bytes or is dropped, and leaves a
BAD_ACCESS record; no register changes and no recompute runs. -/
def Obligations.UnsupportedAccessIsDropped : Prop :=
  ∀ (v : Word) (sz : Size) (off : BitVec 12) (s : State),
    exec (.intcUnsupported .read sz off) s = .next
      { s with diags := s.diags ++ [.badAccess .intc off sz], rdata := RData.zero sz } ∧
    exec (.intcUnsupported (.write v) sz off) s = .next
      { s with diags := s.diags ++ [.badAccess .intc off sz] } ∧
    exec (.tcuUnsupported .read sz off) s = .next
      { s with diags := s.diags ++ [.badAccess .tcu off sz], rdata := RData.zero sz } ∧
    exec (.tcuUnsupported (.write v) sz off) s = .next
      { s with diags := s.diags ++ [.badAccess .tcu off sz] }

/-- 40_intc.md R102, R104, R109: the INTC's readable registers answer the stored word, whole, and the read
changes nothing else; the pending word is `source & ~mask` where R26 holds; with their labels. -/
def Obligations.IntcReadsAnswerTheRegister : Prop :=
  ∀ (b : Bank) (s : State),
    exec (.rdIntcSource b) s = .next { s with rdata := .word (s.bank b).source } ∧
    exec (.rdIntcMask b) s = .next { s with rdata := .word (s.bank b).mask } ∧
    exec (.rdIntcPending b) s = .next { s with rdata := .word (s.bank b).pending } ∧
    (IntcConsistent s → (s.bank b).pending = (s.bank b).source &&& ~~~(s.bank b).mask) ∧
    ∀ d : Word, decode ⟨BitVec.ofNat 20 (0x21000 + 0x20 * b.index), d⟩ = .rdIntcSource b ∧
      decode ⟨BitVec.ofNat 20 (0x21004 + 0x20 * b.index), d⟩ = .rdIntcMask b ∧
      decode ⟨BitVec.ofNat 20 (0x21010 + 0x20 * b.index), d⟩ = .rdIntcPending b

/-- R108: a read of a mask-set or mask-clear register answers 0 and leaves a WO_READ record with the
register's offset; nothing else changes. -/
def Obligations.IntcWriteOnlyReadsAnswerZero : Prop :=
  ∀ (b : Bank) (s : State),
    exec (.rdIntcMaskSet b) s = .next
      { s with diags := s.diags ++ [.woRead .intc (match b with | .b0 => 0x008#12 | .b1 => 0x028#12)],
               rdata := .word 0#32 } ∧
    exec (.rdIntcMaskClr b) s = .next
      { s with diags := s.diags ++ [.woRead .intc (match b with | .b0 => 0x00c#12 | .b1 => 0x02c#12)],
               rdata := .word 0#32 }

/-- R103, R110: writes of source and pending are silently ignored; with their labels. -/
def Obligations.IntcSourceAndPendingWritesAreIgnored : Prop :=
  ∀ (b : Bank) (v : Word) (s : State),
    exec (.wrIntcSource b v) s = .next s ∧ exec (.wrIntcPending b v) s = .next s ∧
    decode ⟨BitVec.ofNat 20 (0x61000 + 0x20 * b.index), v⟩ = .wrIntcSource b v ∧
    decode ⟨BitVec.ofNat 20 (0x61010 + 0x20 * b.index), v⟩ = .wrIntcPending b v

/-- R105 to R107: a mask write stores, ORs or AND-NOTs its data into the bank's mask and recomputes that
bank; nothing else changes; with their labels. -/
def Obligations.IntcMaskWriteResult : Prop :=
  ∀ (v : Word) (s : State),
    let b0 := s.intc.b0
    let b1 := s.intc.b1
    exec (.wrIntcMask .b0 v) s =
      .next { s with intc := { s.intc with b0 := bankOf b0.source v } } ∧
    exec (.wrIntcMask .b1 v) s =
      .next { s with intc := { s.intc with b1 := bankOf b1.source v } } ∧
    exec (.wrIntcMaskSet .b0 v) s =
      .next { s with intc := { s.intc with b0 := bankOf b0.source (b0.mask ||| v) } } ∧
    exec (.wrIntcMaskSet .b1 v) s =
      .next { s with intc := { s.intc with b1 := bankOf b1.source (b1.mask ||| v) } } ∧
    exec (.wrIntcMaskClr .b0 v) s =
      .next { s with intc := { s.intc with b0 := bankOf b0.source (b0.mask &&& ~~~v) } } ∧
    exec (.wrIntcMaskClr .b1 v) s =
      .next { s with intc := { s.intc with b1 := bankOf b1.source (b1.mask &&& ~~~v) } } ∧
    ∀ b : Bank, decode ⟨BitVec.ofNat 20 (0x61004 + 0x20 * b.index), v⟩ = .wrIntcMask b v ∧
      decode ⟨BitVec.ofNat 20 (0x61008 + 0x20 * b.index), v⟩ = .wrIntcMaskSet b v ∧
      decode ⟨BitVec.ofNat 20 (0x6100c + 0x20 * b.index), v⟩ = .wrIntcMaskClr b v

/-- R111, R112: an access to a reserved offset of a bank, or to a bank that does not exist, answers 0 or is
dropped and leaves its record; no register changes and no recompute runs; with their labels. -/
def Obligations.IntcCatchAllsAreDropped : Prop :=
  ∀ (b : Bank) (off : BitVec 12) (v : Word) (s : State),
    let o (r : Nat) : BitVec 12 := BitVec.ofNat 12 (0x20 * b.index + r)
    let rd (d : Diag) : State := { s with diags := s.diags ++ [d], rdata := .word 0#32 }
    let wr (d : Diag) : State := { s with diags := s.diags ++ [d] }
    exec (.intcReserved14 .read b) s = .next (rd (.unknownOffset .intc (o 0x14))) ∧
    exec (.intcReserved14 (.write v) b) s = .next (wr (.unknownOffset .intc (o 0x14))) ∧
    exec (.intcReserved18 .read b) s = .next (rd (.unknownOffset .intc (o 0x18))) ∧
    exec (.intcReserved18 (.write v) b) s = .next (wr (.unknownOffset .intc (o 0x18))) ∧
    exec (.intcReserved1c .read b) s = .next (rd (.unknownOffset .intc (o 0x1c))) ∧
    exec (.intcReserved1c (.write v) b) s = .next (wr (.unknownOffset .intc (o 0x1c))) ∧
    exec (.intcBankRange .read off) s = .next (rd (.bankRange off)) ∧
    exec (.intcBankRange (.write v) off) s = .next (wr (.bankRange off)) ∧
    (∀ acc : Access, ∀ l : Nat, (acc = .read ∧ l = 0x21000) ∨ (acc = .write v ∧ l = 0x61000) →
      decode ⟨BitVec.ofNat 20 (l + 0x20 * b.index + 0x14), v⟩ = .intcReserved14 acc b ∧
      decode ⟨BitVec.ofNat 20 (l + 0x20 * b.index + 0x18), v⟩ = .intcReserved18 acc b ∧
      decode ⟨BitVec.ofNat 20 (l + 0x20 * b.index + 0x1c), v⟩ = .intcReserved1c acc b ∧
      (off.toNat % 4 = 0 → 2 ≤ off.toNat / 0x20 →
        decode ⟨BitVec.ofNat 20 (l + off.toNat), v⟩ = .intcBankRange acc off))

/-- 42_tcu_global.md R163 to R166: the global words are read whole, without any other effect. -/
def Obligations.TcuGlobalReadsAnswerTheWord : Prop :=
  ∀ s : State,
    exec .rdTcuEnable s = .next { s with rdata := .word s.enable } ∧
    exec .rdTcuStop s = .next { s with rdata := .word s.stop } ∧
    exec .rdTcuFlag s = .next { s with rdata := .word s.flag } ∧
    exec .rdTcuMask s = .next { s with rdata := .word s.mask }

/-- R167: the eight set and clear registers read as 0 with a WO_READ record; nothing else changes. -/
def Obligations.TcuWriteOnlyReadsAnswerZero : Prop :=
  ∀ s : State,
    let rd (off : BitVec 12) : State :=
      { s with diags := s.diags ++ [.woRead .tcu off], rdata := .word 0#32 }
    exec .rdTcuEnableSet s = .next (rd 0x014#12) ∧
    exec .rdTcuEnableClr s = .next (rd 0x018#12) ∧
    exec .rdTcuFlagSet s = .next (rd 0x024#12) ∧
    exec .rdTcuFlagClr s = .next (rd 0x028#12) ∧
    exec .rdTcuStopSet s = .next (rd 0x02c#12) ∧
    exec .rdTcuMaskSet s = .next (rd 0x034#12) ∧
    exec .rdTcuMaskClr s = .next (rd 0x038#12) ∧
    exec .rdTcuStopClr s = .next (rd 0x03c#12)

/-- R150 to R162: each of the twelve global writes stores its data into the word, ORs it in or AND-NOTs it out,
then recomputes every channel and the lines; nothing else changes; with their labels. -/
def Obligations.TcuGlobalWriteResult : Prop :=
  ∀ (v : Word) (s : State),
    let after (t : State) : Host.Outcome State Fault Refusal :=
      .next (withLines Config.params (withAllChannels t))
    exec (.wrTcuEnable v) s = after { s with enable := v } ∧
    exec (.wrTcuEnableSet v) s = after { s with enable := s.enable ||| v } ∧
    exec (.wrTcuEnableClr v) s = after { s with enable := s.enable &&& ~~~v } ∧
    exec (.wrTcuStop v) s = after { s with stop := v } ∧
    exec (.wrTcuStopSet v) s = after { s with stop := s.stop ||| v } ∧
    exec (.wrTcuStopClr v) s = after { s with stop := s.stop &&& ~~~v } ∧
    exec (.wrTcuFlag v) s = after { s with flag := v } ∧
    exec (.wrTcuFlagSet v) s = after { s with flag := s.flag ||| v } ∧
    exec (.wrTcuFlagClr v) s = after { s with flag := s.flag &&& ~~~v } ∧
    exec (.wrTcuMask v) s = after { s with mask := v } ∧
    exec (.wrTcuMaskSet v) s = after { s with mask := s.mask ||| v } ∧
    exec (.wrTcuMaskClr v) s = after { s with mask := s.mask &&& ~~~v } ∧
    decode ⟨0x62010#20, v⟩ = .wrTcuEnable v ∧
    decode ⟨0x62014#20, v⟩ = .wrTcuEnableSet v ∧
    decode ⟨0x62018#20, v⟩ = .wrTcuEnableClr v ∧
    decode ⟨0x6201c#20, v⟩ = .wrTcuStop v ∧
    decode ⟨0x6202c#20, v⟩ = .wrTcuStopSet v ∧
    decode ⟨0x6203c#20, v⟩ = .wrTcuStopClr v ∧
    decode ⟨0x62020#20, v⟩ = .wrTcuFlag v ∧
    decode ⟨0x62024#20, v⟩ = .wrTcuFlagSet v ∧
    decode ⟨0x62028#20, v⟩ = .wrTcuFlagClr v ∧
    decode ⟨0x62030#20, v⟩ = .wrTcuMask v ∧
    decode ⟨0x62034#20, v⟩ = .wrTcuMaskSet v ∧
    decode ⟨0x62038#20, v⟩ = .wrTcuMaskClr v

/-- 41_tcu_channel.md R130: a count register answers the count, and the read changes nothing else; the count is 0
or below `full` where the count invariant of 43_tcu_tick.md R191 holds; with its label. -/
def Obligations.TcuCountReadsAnswerTheCount : Prop :=
  ∀ (c : Chan) (s : State),
    exec (Instr.rdTcuCountAt c) s = .next { s with rdata := .word (s.chan c).count } ∧
    (CountsBelowFull s → (s.chan c).count = 0#32 ∨ (s.chan c).count < (s.chan c).full) ∧
    ∀ d : Word, decode ⟨BitVec.ofNat 20 (0x22048 + 0x10 * c.index), d⟩ = Instr.rdTcuCountAt c

/-- R131 to R133: full, half and ctrl read as 0 with an UNHANDLED_READ record, whatever they hold; with their labels. -/
def Obligations.TcuUnhandledReadsAnswerZero : Prop :=
  ∀ (c : Chan) (s : State),
    let rd (r : ChanReg) : State :=
      { s with diags := s.diags ++ [.unhandledRead c r], rdata := .word 0#32 }
    exec (Instr.rdTcuFullAt c) s = .next (rd .full) ∧
    exec (Instr.rdTcuHalfAt c) s = .next (rd .half) ∧
    exec (Instr.rdTcuCtrlAt c) s = .next (rd .ctrl) ∧
    ∀ d : Word, decode ⟨BitVec.ofNat 20 (0x22040 + 0x10 * c.index), d⟩ = Instr.rdTcuFullAt c ∧
      decode ⟨BitVec.ofNat 20 (0x22044 + 0x10 * c.index), d⟩ = Instr.rdTcuHalfAt c ∧
      decode ⟨BitVec.ofNat 20 (0x2204c + 0x10 * c.index), d⟩ = Instr.rdTcuCtrlAt c

/-- R134, R135: the thresholds take the low 16 bits of the data; the channel and the lines are recomputed;
nothing else changes; with their labels. -/
def Obligations.TcuThresholdWriteResult : Prop :=
  ∀ (c : Chan) (v : Word) (s : State),
    exec (Instr.wrTcuFullAt c v) s = .next (withLines Config.params
      (withChannel c { s.chan c with full := (v.setWidth 16).setWidth 32 } s)) ∧
    exec (Instr.wrTcuHalfAt c v) s = .next (withLines Config.params
      (withChannel c { s.chan c with half := (v.setWidth 16).setWidth 32 } s)) ∧
    decode ⟨BitVec.ofNat 20 (0x62040 + 0x10 * c.index), v⟩ = Instr.wrTcuFullAt c v ∧
    decode ⟨BitVec.ofNat 20 (0x62044 + 0x10 * c.index), v⟩ = Instr.wrTcuHalfAt c v

/-- R136, R137: count and ctrl take the data whole; the channel and the lines are recomputed; nothing else
changes; with their labels. -/
def Obligations.TcuCountAndCtrlWriteResult : Prop :=
  ∀ (c : Chan) (v : Word) (s : State),
    exec (Instr.wrTcuCountAt c v) s = .next (withLines Config.params
      (withChannel c { s.chan c with count := v } s)) ∧
    exec (Instr.wrTcuCtrlAt c v) s = .next (withLines Config.params
      (withChannel c { s.chan c with ctrl := v } s)) ∧
    decode ⟨BitVec.ofNat 20 (0x62048 + 0x10 * c.index), v⟩ = Instr.wrTcuCountAt c v ∧
    decode ⟨BitVec.ofNat 20 (0x6204c + 0x10 * c.index), v⟩ = Instr.wrTcuCtrlAt c v

/-- R138: an access to a TCU offset that names no register answers 0 or is dropped, and leaves an
UNKNOWN_OFFSET record; no recompute runs; with their labels. -/
def Obligations.TcuReservedOffsetsAreDropped : Prop :=
  ∀ (off : BitVec 12) (v : Word) (s : State),
    exec (.tcuReserved .read off) s = .next
      { s with diags := s.diags ++ [.unknownOffset .tcu off], rdata := .word 0#32 } ∧
    exec (.tcuReserved (.write v) off) s = .next
      { s with diags := s.diags ++ [.unknownOffset .tcu off] } ∧
    (off.toNat % 4 = 0 →
      off.toNat ≤ 0x00c ∨ (0x0c0 ≤ off.toNat ∧ off.toNat ≤ 0x12f) ∨ (0x140 ≤ off.toNat ∧ off.toNat ≤ 0x1ff) →
      decode ⟨BitVec.ofNat 20 (0x22000 + off.toNat), v⟩ = .tcuReserved .read off ∧
      decode ⟨BitVec.ofNat 20 (0x62000 + off.toNat), v⟩ = .tcuReserved (.write v) off)

/-- 30_encoding.md R78 (a) and (b): a label that names no event, and a bus label in no window, are refused by
name. -/
def Obligations.LabelsWithoutOperationAreRefused : Prop :=
  ∀ (ek : BitVec 3) (p : BitVec 16) (acc : Access) (sz : Size) (u : BitVec 4) (off : BitVec 12)
    (s : State),
    exec (.reservedEvent ek p) s = .refused (.reservedEvent ek p) ∧
    exec (.notThisBlock acc sz u off) s = .refused (.notThisBlock u off)

/-- 60_exceptions.md R200, 30_encoding.md R78, 40_intc.md R101 (c): every operation completes in its step,
but for the three the spec refuses. -/
def Obligations.EveryOtherOperationCompletes : Prop :=
  ∀ (i : Instr) (s : State),
    (∃ t, exec i s = .next t) ∨
    (∃ ek p, i = .reservedEvent ek p) ∨
    (∃ acc sz u off, i = .notThisBlock acc sz u off) ∨
    (∃ lv idx k, i = .req lv idx ∧ idx.toNat = (lineSource Config.params k).val)

/-! ## Invariants -/

/-- 70_reset_and_hazards.md R233: the state after reset meets the invariant. That every tick is scheduled in
it is read from R38 (log entry 9). -/
def Obligations.ResetStateMeetsTheInvariant : Prop := Inv State.reset

/-- R233, 10_state.md R26, R29, R30, R37, R38, 43_tcu_tick.md R191: every step keeps the invariant. -/
def Obligations.EveryStepKeepsTheInvariant : Prop :=
  ∀ s t : State, Inv s → step s = .next t → Inv t

/-- 10_state.md R26: after every step, for every bank, `pending = source & ~mask` and the line is their OR;
reset establishes it. -/
def Obligations.PendingIsSourceAndNotMask : Prop :=
  IntcConsistent State.reset ∧
  (∀ s t : State, IntcConsistent s → step s = .next t → IntcConsistent t) ∧
  (∀ (s t : State) (b : Bank) (v : Word),
    exec (.wrIntcMask b v) s = .next t ∨ exec (.wrIntcMaskSet b v) s = .next t ∨
      exec (.wrIntcMaskClr b v) s = .next t →
    (t.bank b).pending = (t.bank b).source &&& ~~~(t.bank b).mask) ∧
  (∀ (s t : State) (lv : Bool) (idx : BitVec 8) (b : Bank),
    idx.toNat / 32 = b.index → exec (.req lv idx) s = .next t →
    (t.bank b).pending = (t.bank b).source &&& ~~~(t.bank b).mask)

/-- 43_tcu_tick.md R183 to R185: the lines that the line recompute leaves. -/
def Obligations.LinesAreTheStaticGrouping : Prop :=
  ∀ (P : Params) (s : State),
    ((linesRecompute P s).line.l0 = true ↔ (s.flag &&& ~~~s.mask).getLsbD 15 = true) ∧
    ((linesRecompute P s).line.l1 = true ↔
      (s.flag &&& ~~~s.mask).getLsbD 5 = true ∨ (s.flag &&& ~~~s.mask).getLsbD 21 = true) ∧
    ((linesRecompute P s).line.l2 = true ↔
      ∃ n, (n = 0 ∨ n = 1 ∨ n = 2 ∨ n = 3 ∨ n = 4 ∨ n = 6 ∨ n = 7) ∧
        ((s.flag &&& ~~~s.mask).getLsbD n = true ∨
          (s.flag &&& ~~~s.mask).getLsbD (16 + n) = true)) ∧
    lineBits .l0 = 0x00008000#32 ∧ lineBits .l1 = 0x00200020#32 ∧ lineBits .l2 = 0x00DF00DF#32

/-- R186: after a line recompute each line's level is on the bank-0 input it is wired to, every other input
is as it was, and bank 0 is recomputed, for all parameters in the ranges of 00_scope.md R10. -/
def Obligations.LinesDriveTheirInputs : Prop :=
  ∀ (P : Params) (s : State), P.Ok →
    let t := linesRecompute P s
    t.intc.b0.source.getLsbD P.irqSrc0.val = t.line.l0 ∧
    t.intc.b0.source.getLsbD P.irqSrc1.val = t.line.l1 ∧
    t.intc.b0.source.getLsbD P.irqSrc2.val = t.line.l2 ∧
    (∀ i, i ≠ P.irqSrc0.val → i ≠ P.irqSrc1.val → i ≠ P.irqSrc2.val →
      t.intc.b0.source.getLsbD i = s.intc.b0.source.getLsbD i) ∧
    t.intc.b0.mask = s.intc.b0.mask ∧
    t.intc.b0.pending = t.intc.b0.source &&& ~~~t.intc.b0.mask ∧
    (t.intc.b0.irqOut = true ↔ t.intc.b0.pending ≠ 0#32) ∧
    t.intc.b1 = s.intc.b1

/-- 60_exceptions.md R204: in a good state, a set flag bit whose TCU mask bit and whose line's INTC mask bit
are clear raises the output line of bank 0. -/
def Obligations.UnmaskedFlagReachesTheProcessorLine : Prop :=
  ∀ (s : State) (k : Line) (n : Nat), Inv s →
    (lineBits k).getLsbD n = true → s.flag.getLsbD n = true → s.mask.getLsbD n = false →
    s.intc.b0.mask.getLsbD (lineSource Config.params k).val = false →
    s.intc.b0.irqOut = true

/-! ## Rules about the whole machine -/

/-- 20_memory.md R57: a bus read changes nothing but its result and the logs, and the same read again gives
the same result. -/
def Obligations.ReadsChangeNoRegister : Prop :=
  ∀ (i : Instr) (s t : State), isBusRead i = true → exec i s = .next t →
    t = { s with rdata := t.rdata, diags := t.diags, cguLog := t.cguLog } ∧
    ∃ u, exec i t = .next u ∧ u.rdata = t.rdata

/-- 43_tcu_tick.md R190: no operation but a write of the flag word or its clear register, and RESET, clears a
flag bit. -/
def Obligations.FlagsAreSticky : Prop :=
  ∀ (i : Instr) (s t : State) (n : Nat), exec i s = .next t →
    (∀ v, i ≠ .wrTcuFlag v) → (∀ v, i ≠ .wrTcuFlagClr v) → i ≠ .reset →
    s.flag.getLsbD n = true → t.flag.getLsbD n = true

/-- 43_tcu_tick.md R192: no operation but a write of the flag word or its set register sets a flag bit outside
`0x00FF_80FF`. -/
def Obligations.HardwareSetsOnlyChannelFlags : Prop :=
  ∀ (i : Instr) (s t : State) (n : Nat), exec i s = .next t →
    (∀ v, i ≠ .wrTcuFlag v) → (∀ v, i ≠ .wrTcuFlagSet v) →
    s.flag.getLsbD n = false → t.flag.getLsbD n = true → (0x00FF80FF#32).getLsbD n = true

/-- 42_tcu_global.md R168: a flag write stores its word and, in the same step, every flag whose condition
holds is set again. -/
def Obligations.FlagWriteSetsHoldingConditionsAgain : Prop :=
  ∀ (v : Word) (s : State) (n : Nat), n < 32 →
    let again : Prop := (∃ c, n = c.index ∧ Overflows s c) ∨ ∃ c, n = 16 + c.index ∧ HalfOverflows s c
    ∃ tw ts tc, exec (.wrTcuFlag v) s = .next tw ∧ exec (.wrTcuFlagSet v) s = .next ts ∧
      exec (.wrTcuFlagClr v) s = .next tc ∧
      (tw.flag.getLsbD n = true ↔ v.getLsbD n = true ∨ again) ∧
      (ts.flag.getLsbD n = true ↔ (s.flag.getLsbD n = true ∨ v.getLsbD n = true) ∨ again) ∧
      (tc.flag.getLsbD n = true ↔ (s.flag.getLsbD n = true ∧ v.getLsbD n = false) ∨ again)

/-- 42_tcu_global.md R169: a set or clear write leaves the state that the whole-word write of the combined
word leaves. -/
def Obligations.SetAndClearAreWholeWordWrites : Prop :=
  ∀ (v : Word) (s : State),
    exec (.wrTcuEnableSet v) s = exec (.wrTcuEnable (s.enable ||| v)) s ∧
    exec (.wrTcuEnableClr v) s = exec (.wrTcuEnable (s.enable &&& ~~~v)) s ∧
    exec (.wrTcuStopSet v) s = exec (.wrTcuStop (s.stop ||| v)) s ∧
    exec (.wrTcuStopClr v) s = exec (.wrTcuStop (s.stop &&& ~~~v)) s ∧
    exec (.wrTcuFlagSet v) s = exec (.wrTcuFlag (s.flag ||| v)) s ∧
    exec (.wrTcuFlagClr v) s = exec (.wrTcuFlag (s.flag &&& ~~~v)) s ∧
    exec (.wrTcuMaskSet v) s = exec (.wrTcuMask (s.mask ||| v)) s ∧
    exec (.wrTcuMaskClr v) s = exec (.wrTcuMask (s.mask &&& ~~~v)) s ∧
    ∀ b, exec (.wrIntcMaskSet b v) s = exec (.wrIntcMask b ((s.bank b).mask ||| v)) s ∧
      exec (.wrIntcMaskClr b v) s = exec (.wrIntcMask b ((s.bank b).mask &&& ~~~v)) s

/-- 20_memory.md R58: writing the same value twice to mask, enable, stop or flag is writing it once; for the
flag word in the states that keep the count invariant of 43_tcu_tick.md R191. -/
def Obligations.WholeWordWritesAreIdempotent : Prop :=
  ∀ (v : Word) (s : State),
    (∀ t, exec (.wrTcuEnable v) s = .next t → exec (.wrTcuEnable v) t = .next t) ∧
    (∀ t, exec (.wrTcuStop v) s = .next t → exec (.wrTcuStop v) t = .next t) ∧
    (∀ t, exec (.wrTcuMask v) s = .next t → exec (.wrTcuMask v) t = .next t) ∧
    (∀ b t, exec (.wrIntcMask b v) s = .next t → exec (.wrIntcMask b v) t = .next t) ∧
    (CountsBelowFull s →
      ∀ t, exec (.wrTcuFlag v) s = .next t → exec (.wrTcuFlag v) t = .next t)

/-- 43_tcu_tick.md R181: the recompute of all channels gives the same state in every order. -/
def Obligations.RecomputeOrderDoesNotMatter : Prop :=
  ∀ (cs : List Chan) (s : State), cs.Perm Chan.all → recomputeList cs s = recomputeAll s

/-- 43_tcu_tick.md R189: the ticks of two channels commute. -/
def Obligations.TicksOfTwoChannelsCommute : Prop :=
  ∀ (c d : Chan) (s sc sd t u : State), c ≠ d →
    exec (Instr.tickAt c) s = .next sc → exec (Instr.tickAt d) sc = .next t →
    exec (Instr.tickAt d) s = .next sd → exec (Instr.tickAt c) sd = .next u →
    t = u

/-- 40_intc.md R114: a request or an INTC access changes the registers of no bank but its own. -/
def Obligations.IntcOperationsTouchOneBank : Prop :=
  ∀ (s t : State) (b d : Bank) (v : Word) (lv : Bool) (idx : BitVec 8), d ≠ b →
    (exec (.wrIntcMask b v) s = .next t ∨ exec (.wrIntcMaskSet b v) s = .next t ∨
      exec (.wrIntcMaskClr b v) s = .next t ∨ exec (.wrIntcSource b v) s = .next t ∨
      exec (.wrIntcPending b v) s = .next t ∨
      (idx.toNat / 32 = b.index ∧ exec (.req lv idx) s = .next t)) →
    t.bank d = s.bank d

/-- 40_intc.md R113: a bank's output line goes from high to low only by a request that lowers an input of the
bank, by a write that masks a source of the bank, by RESET or, in bank 0, by an operation that lowers a
TCU line. -/
def Obligations.OutputLineFallsOnlyByProducerOrMask : Prop :=
  ∀ (i : Instr) (s t : State) (b : Bank), Inv s → exec i s = .next t →
    (s.bank b).irqOut = true → (t.bank b).irqOut = false →
    (∃ idx : BitVec 8, i = .req false idx ∧ idx.toNat / 32 = b.index) ∨
    (∃ v, i = .wrIntcMask b v) ∨ (∃ v, i = .wrIntcMaskSet b v) ∨ i = .reset ∨
    (b = .b0 ∧ ∃ k, s.lineOf k = true ∧ t.lineOf k = false)

/-- 10_state.md R32, R34, R35: enable, stop and mask change only by their own writes and by RESET. -/
def Obligations.GlobalWordsHaveTheirOwnWriters : Prop :=
  ∀ (i : Instr) (s t : State), exec i s = .next t → i ≠ .reset →
    ((∀ v, i ≠ .wrTcuEnable v ∧ i ≠ .wrTcuEnableSet v ∧ i ≠ .wrTcuEnableClr v) →
      t.enable = s.enable) ∧
    ((∀ v, i ≠ .wrTcuStop v ∧ i ≠ .wrTcuStopSet v ∧ i ≠ .wrTcuStopClr v) → t.stop = s.stop) ∧
    ((∀ v, i ≠ .wrTcuMask v ∧ i ≠ .wrTcuMaskSet v ∧ i ≠ .wrTcuMaskClr v) → t.mask = s.mask)

/-- 10_state.md R28 to R31: full, half and ctrl change only by their own writes and by RESET; a count changes
only by a tick of its enabled channel, by a count write, by RESET, or to 0 where it is at or past `full`
or where a full write puts `full` at or below it. -/
def Obligations.ChannelRegistersHaveTheirOwnWriters : Prop :=
  ∀ (i : Instr) (s t : State) (c : Chan), exec i s = .next t → i ≠ .reset →
    ((∀ v, i ≠ Instr.wrTcuFullAt c v) → (t.chan c).full = (s.chan c).full) ∧
    ((∀ v, i ≠ Instr.wrTcuHalfAt c v) → (t.chan c).half = (s.chan c).half) ∧
    ((∀ v, i ≠ Instr.wrTcuCtrlAt c v) → (t.chan c).ctrl = (s.chan c).ctrl) ∧
    ((∀ v, i ≠ Instr.wrTcuCountAt c v) →
      ¬ (i = Instr.tickAt c ∧ s.enable.getLsbD c.index = true) →
      (t.chan c).count = (s.chan c).count ∨
      ((t.chan c).count = 0#32 ∧ (t.chan c).full ≤ (s.chan c).count))

/-- 10_state.md R30, R31: no rule reads a ctrl register or the OS timer's half register: every operation does
the same, up to those registers, whatever they hold. -/
def Obligations.CtrlAndOstHalfAreNeverRead : Prop :=
  ∀ (i : Instr) (s : State), mapNext eraseUnread (exec i s) = mapNext eraseUnread (exec i (eraseUnread s))

/-- 10_state.md R34: no rule but its own read reads the stop word. -/
def Obligations.StopGatesNothing : Prop :=
  ∀ (i : Instr) (s : State), i ≠ .rdTcuStop →
    mapNext eraseStop (exec i s) = mapNext eraseStop (exec i (eraseStop s))

/-- 10_state.md R39, 20_memory.md R52: no operation's result depends on the diagnostic records or on the CGU's
log: registers and read result are what they are with empty logs, and the records an operation adds are the same
after whatever was recorded before. Nor does anything depend on an earlier read result: a bus read does the same
after every one, and every other operation keeps it (the model's choice, log entry 4). -/
def Obligations.LogsAreNeverRead : Prop :=
  ∀ (i : Instr) (s : State),
    mapNext eraseLogs (exec i s) = mapNext eraseLogs (exec i (eraseLogs s)) ∧
    (∀ ds gs, exec i (afterLogs ds gs s) = mapNext (afterLogs ds gs) (exec i s)) ∧
    ∀ r : RData, exec i { s with rdata := r } =
      if isBusRead i = true then exec i s else mapNext (fun t => { t with rdata := r }) (exec i s)

/-- 43_tcu_tick.md R193: the overflow period, for every increment `K` that cannot wrap. From count 0, with
`full = F >= 1`, the count after tick `n <= ceil(F / K)` is `n*K`, but 0 after the last; the overflow flag is set
by that last tick and by none before; the half flag of a channel other than the OS timer is set by the first tick
`m` with `half <= m*K`; and enable, full and half are as they were, so that the next period starts from the same
hypotheses. Where the parameters are this block's, the ticks are those that `exec` runs. -/
def Obligations.OverflowPeriod : Prop :=
  ∀ (P : Params) (c : Chan) (s : State) (F H K n : Nat),
    P.tickIncrement.toNat = K → 1 ≤ K → K ≤ 0xFFFFFFFF - 0xFFFF →
    (s.chan c).full.toNat = F → 1 ≤ F → F ≤ 0xFFFF → (s.chan c).half.toNat = H →
    s.enable.getLsbD c.index = true → (s.chan c).count = 0#32 →
    n ≤ (F + K - 1) / K →
    let t := tickMany P c n s
    (t.chan c).count.toNat = (if n < (F + K - 1) / K then n * K else 0) ∧
    (t.flag.getLsbD c.index = true ↔ s.flag.getLsbD c.index = true ∨ n = (F + K - 1) / K) ∧
    (t.flag.getLsbD (16 + c.index) = true ↔
      s.flag.getLsbD (16 + c.index) = true ∨ (c ≠ .ost ∧ ∃ m, 1 ≤ m ∧ m ≤ n ∧ H ≤ m * K)) ∧
    t.enable = s.enable ∧ (t.chan c).full = (s.chan c).full ∧ (t.chan c).half = (s.chan c).half ∧
    (P = Config.params → ticks c n s = .next t)

/-- 30_encoding.md R80: each pseudo-operation expands to lines whose operations decode as the table of R80
writes them. -/
def Obligations.PseudoOperationsExpand : Prop :=
  ∀ (c : Chan) (b : Bank) (f h v : Word) (idx : BitVec 8),
    let ops (p : Pseudo) : List Instr := p.expand.map fun l => decode l.operation
    ops (.tcuEn c) = [.wrTcuEnableSet (bit c.index)] ∧
    ops (.tcuDis c) = [.wrTcuEnableClr (bit c.index)] ∧
    ops (.tcuAck v) = [.wrTcuFlagClr v] ∧
    ops (.tcuUnmask v) = [.wrTcuMaskClr v] ∧
    ops (.tcuMask v) = [.wrTcuMaskSet v] ∧
    ops (.tcuSetup c f h) = [Instr.wrTcuFullAt c f, Instr.wrTcuHalfAt c h] ∧
    ops (.intcUnmask b v) = [.wrIntcMaskClr b v] ∧
    ops (.intcMask b v) = [.wrIntcMaskSet b v] ∧
    ops (.intcRaise idx) = [.req true idx] ∧
    ops (.intcLower idx) = [.req false idx]
end

