-- ==== Sys2Proof/Laws/Decode.lean ====
section
/-! SUPPORT. The fields of a label read back from it, and decode on an encoded bus access or event. -/
namespace Sys2Proof

@[simp] theorem Size.ofCode_code (sz : Size) : Size.ofCode sz.code = sz := by cases sz <;> rfl

@[simp] theorem Size.code_ofCode (z : BitVec 2) : (Size.ofCode z).code = z := by
  revert z; decide

@[simp] theorem Access.ofBits_isWrite (acc : Access) : Access.ofBits acc.isWrite acc.data = acc := by
  cases acc <;> rfl

@[simp] theorem Access.isWrite_ofBits (w : Bool) (v : Word) : (Access.ofBits w v).isWrite = w := by
  cases w <;> rfl

@[simp] theorem Access.data_ofBits (w : Bool) (v : Word) :
    (Access.ofBits w v).data = if w then v else 0#32 := by
  cases w <;> rfl

@[simp] theorem Chan.ofIndex_index (c : Chan) : Chan.ofIndex c.index = some c := by
  cases c <;> rfl

theorem Chan.index_of_ofIndex (n : Nat) (c : Chan) (h : Chan.ofIndex n = some c) : c.index = n := by
  unfold Chan.ofIndex at h
  repeat' split at h
  all_goals first
    | (cases h; subst_vars; rfl)
    | cases h

theorem Chan.index_lt (c : Chan) : c.index < 16 := by cases c <;> decide

theorem Chan.index_injective (c d : Chan) (h : c.index = d.index) : c = d := by
  cases c <;> cases d <;> first | rfl | cases h

@[simp] theorem Bank.ofIndex_index (b : Bank) : Bank.ofIndex b.index = some b := by
  cases b <;> rfl

/-! The fields of an offset as numbers -/

theorem isAligned_eq (off : BitVec 12) : isAligned off = decide (off.toNat % 4 = 0) := by
  have : off.extractLsb' 0 2 = 0#2 ↔ off.toNat % 4 = 0 := by
    rw [← BitVec.toNat_inj, BitVec.extractLsb'_toNat]; simp
  unfold isAligned
  by_cases h : off.toNat % 4 = 0 <;> simp [h, this]

theorem bankField_toNat (off : BitVec 12) : (off.extractLsb' 5 7).toNat = off.toNat / 32 := by
  have := off.isLt
  rw [BitVec.extractLsb'_toNat, Nat.shiftRight_eq_div_pow]
  omega

theorem intcField_eq (off : BitVec 12) (r : BitVec 5) :
    off.extractLsb' 0 5 = r ↔ off.toNat % 32 = r.toNat := by
  rw [← BitVec.toNat_inj, BitVec.extractLsb'_toNat, Nat.shiftRight_eq_div_pow]
  simp

theorem chanField_eq (off : BitVec 12) (r : BitVec 4) :
    off.extractLsb' 0 4 = r ↔ off.toNat % 16 = r.toNat := by
  rw [← BitVec.toNat_inj, BitVec.extractLsb'_toNat, Nat.shiftRight_eq_div_pow]
  simp

theorem Chan.ofIndex_eq_none (n : Nat) : Chan.ofIndex n = none ↔ 8 ≤ n ∧ n ≠ 15 := by
  constructor
  · intro h
    unfold Chan.ofIndex at h
    repeat' split at h
    all_goals first
      | (cases h; done)
      | omega
  · rintro ⟨h1, h2⟩
    unfold Chan.ofIndex
    repeat' split
    all_goals first
      | rfl
      | omega

theorem Bank.ofIndex_eq_none (n : Nat) : Bank.ofIndex n = none ↔ 2 ≤ n := by
  unfold Bank.ofIndex
  split
  · simp; omega
  · split <;> simp <;> omega

theorem Bank.index_of_ofIndex (n : Nat) (b : Bank) (h : Bank.ofIndex n = some b) : b.index = n := by
  unfold Bank.ofIndex at h
  repeat' split at h
  all_goals first
    | (cases h; subst_vars; rfl)
    | cases h

/-- The channel of a per-channel offset. -/
theorem chanOfOffset_eq_some (off : BitVec 12) (c : Chan) :
    chanOfOffset off = some c ↔ off.toNat / 16 = 4 + c.index := by
  have hoff := off.isLt
  have e : (off.extractLsb' 4 5).toNat = off.toNat / 16 % 32 := by
    rw [BitVec.extractLsb'_toNat, Nat.shiftRight_eq_div_pow]
  unfold chanOfOffset
  rw [e]
  constructor
  · intro h
    split at h
    · have := Chan.index_of_ofIndex _ _ h
      omega
    · cases h
  · intro h
    have := c.index_lt
    rw [if_pos (by omega), show off.toNat / 16 % 32 - 4 = c.index by omega, Chan.ofIndex_index]

/-- The offsets of no channel. -/
theorem chanOfOffset_eq_none (off : BitVec 12) :
    chanOfOffset off = none ↔
      off.toNat < 0x40 ∨ (0xc0 ≤ off.toNat ∧ off.toNat < 0x130) ∨ 0x140 ≤ off.toNat := by
  have hoff := off.isLt
  have e : (off.extractLsb' 4 5).toNat = off.toNat / 16 % 32 := by
    rw [BitVec.extractLsb'_toNat, Nat.shiftRight_eq_div_pow]
  unfold chanOfOffset
  rw [e]
  split
  · rw [Chan.ofIndex_eq_none]; omega
  · simp only [true_iff]; omega

/-- The global register of an offset. -/
theorem TcuGlobalReg.offset_of_ofOffset (n : Nat) (g : TcuGlobalReg)
    (h : TcuGlobalReg.ofOffset n = some g) : g.offset = n :=
  eq_of_beq (List.find?_some (p := fun g : TcuGlobalReg => g.offset == n) h)

theorem TcuGlobalReg.ofOffset_offset (g : TcuGlobalReg) :
    TcuGlobalReg.ofOffset g.offset = some g := by
  cases g <;> decide

/-- An aligned offset of no global register. -/
theorem TcuGlobalReg.ofOffset_eq_none (n : Nat) (h4 : n % 4 = 0) :
    TcuGlobalReg.ofOffset n = none ↔ n < 0x10 ∨ 0x40 ≤ n := by
  simp only [TcuGlobalReg.ofOffset, List.find?_eq_none, beq_iff_eq]
  constructor
  · intro h
    by_contra hn
    have : ∀ k < 12, n ≠ 0x10 + 4 * k := by
      intro k hk e
      have := h (TcuGlobalReg.all[k]'(hk)) (List.getElem_mem _)
      interval_cases k <;> exact this e.symm
    have := this ((n - 0x10) / 4) (by omega)
    omega
  · intro h g _ e
    cases g <;> simp only [TcuGlobalReg.offset] at e <;> omega

/-! Labels -/

theorem busLabel_toNat (w : Bool) (sz : Size) (u : BitVec 4) (off : BitVec 12) :
    (busLabel w sz u off).toNat =
      w.toNat * 0x40000 + sz.code.toNat * 0x10000 + u.toNat * 0x1000 + off.toNat := by
  have hw : w.toNat ≤ 1 := Bool.toNat_le w
  have := sz.code.isLt
  have := u.isLt
  have := off.isLt
  simp only [busLabel, BitVec.toNat_ofNat]
  omega

theorem eventLabel_toNat (ek : BitVec 3) (p : BitVec 16) :
    (eventLabel ek p).toNat = 0x80000 + ek.toNat * 0x10000 + p.toNat := by
  have := ek.isLt
  have := p.isLt
  simp only [eventLabel, BitVec.toNat_ofNat]
  omega

theorem testBit_eq_div (n i : Nat) : n.testBit i = decide (n / 2 ^ i % 2 = 1) := by
  rw [Nat.testBit_eq_decide_div_mod_eq]

theorem busLabel_class (w : Bool) (sz : Size) (u : BitVec 4) (off : BitVec 12) :
    (busLabel w sz u off).getLsbD 19 = false := by
  have hw : w.toNat ≤ 1 := Bool.toNat_le w
  have := sz.code.isLt
  have := u.isLt
  have := off.isLt
  rw [BitVec.getLsbD, testBit_eq_div, busLabel_toNat, decide_eq_false_iff_not]
  omega

theorem busLabel_write (w : Bool) (sz : Size) (u : BitVec 4) (off : BitVec 12) :
    (busLabel w sz u off).getLsbD 18 = w := by
  have := sz.code.isLt
  have := u.isLt
  have := off.isLt
  rw [BitVec.getLsbD, testBit_eq_div, busLabel_toNat]
  cases w <;> simp only [Bool.toNat_false, Bool.toNat_true, decide_eq_false_iff_not,
    decide_eq_true_eq] <;> omega

@[simp] theorem busLabel_size (w : Bool) (sz : Size) (u : BitVec 4) (off : BitVec 12) :
    (busLabel w sz u off).extractLsb' 16 2 = sz.code := by
  have hw : w.toNat ≤ 1 := Bool.toNat_le w
  have := sz.code.isLt
  have := u.isLt
  have := off.isLt
  apply BitVec.eq_of_toNat_eq
  rw [BitVec.extractLsb'_toNat, busLabel_toNat, Nat.shiftRight_eq_div_pow]
  omega

@[simp] theorem busLabel_unit (w : Bool) (sz : Size) (u : BitVec 4) (off : BitVec 12) :
    (busLabel w sz u off).extractLsb' 12 4 = u := by
  have := u.isLt
  have := off.isLt
  apply BitVec.eq_of_toNat_eq
  rw [BitVec.extractLsb'_toNat, busLabel_toNat, Nat.shiftRight_eq_div_pow]
  omega

@[simp] theorem busLabel_off (w : Bool) (sz : Size) (u : BitVec 4) (off : BitVec 12) :
    (busLabel w sz u off).extractLsb' 0 12 = off := by
  have := off.isLt
  apply BitVec.eq_of_toNat_eq
  rw [BitVec.extractLsb'_toNat, busLabel_toNat, Nat.shiftRight_eq_div_pow]
  omega

theorem eventLabel_class (ek : BitVec 3) (p : BitVec 16) :
    (eventLabel ek p).getLsbD 19 = true := by
  have := ek.isLt
  have := p.isLt
  rw [BitVec.getLsbD, testBit_eq_div, eventLabel_toNat, decide_eq_true_eq]
  omega

@[simp] theorem eventLabel_kind (ek : BitVec 3) (p : BitVec 16) :
    (eventLabel ek p).extractLsb' 16 3 = ek := by
  have := ek.isLt
  have := p.isLt
  apply BitVec.eq_of_toNat_eq
  rw [BitVec.extractLsb'_toNat, eventLabel_toNat, Nat.shiftRight_eq_div_pow]
  omega

@[simp] theorem eventLabel_payload (ek : BitVec 3) (p : BitVec 16) :
    (eventLabel ek p).extractLsb' 0 16 = p := by
  have := p.isLt
  apply BitVec.eq_of_toNat_eq
  rw [BitVec.extractLsb'_toNat, eventLabel_toNat, Nat.shiftRight_eq_div_pow]
  omega

/-- Decoding an encoded bus access. -/
theorem decode_busOp (acc : Access) (sz : Size) (u : BitVec 4) (off : BitVec 12) :
    decode (busOp acc sz u off) = decodeBus acc sz u off := by
  simp only [decode, busOp, busLabel_class, busLabel_write, busLabel_size, busLabel_unit,
    busLabel_off, Size.ofCode_code, Access.ofBits_isWrite, Bool.false_eq_true, if_false]

/-- Decoding an encoded event. -/
theorem decode_eventOp (ek : BitVec 3) (p : BitVec 16) :
    decode (eventOp ek p) = decodeEvent ek p := by
  simp only [decode, eventOp, eventLabel_class, eventLabel_kind, eventLabel_payload, if_true]

/-! Physical addresses -/

/-- The fields of a labelled address put the address together. -/
theorem addressFields_eq_some (pa : BitVec 32) (p : BitVec 4 × BitVec 12) (h : addressFields pa = some p) :
    pa.toNat = 0x10000000 + 0x1000 * p.1.toNat + p.2.toNat ∧ p.1.toNat ≤ 2 := by
  unfold addressFields at h
  split at h
  · rename_i hc
    obtain ⟨hi, hu⟩ := hc
    cases h
    have := pa.isLt
    rw [← BitVec.toNat_inj, BitVec.extractLsb'_toNat, Nat.shiftRight_eq_div_pow] at hi
    rw [BitVec.le_def] at hu
    simp only [BitVec.extractLsb'_toNat, Nat.shiftRight_eq_div_pow, BitVec.toNat_ofNat] at *
    omega
  · cases h

/-- No fields: the address lies outside `0x1000_0000` to `0x1000_2fff`. -/
theorem addressFields_eq_none (pa : BitVec 32) (h : addressFields pa = none) :
    pa.toNat < 0x10000000 ∨ 0x10002fff < pa.toNat := by
  unfold addressFields at h
  split at h
  · cases h
  · rename_i hc
    rw [← BitVec.toNat_inj, BitVec.le_def] at hc
    simp only [BitVec.extractLsb'_toNat, Nat.shiftRight_eq_div_pow, BitVec.toNat_ofNat] at hc
    have := pa.isLt
    omega

/-- The unit and offset of an address in a window. -/
theorem unitOfAddress_eq_some (pa : BitVec 32) (p : BitVec 4 × BitVec 12) (h : unitOfAddress pa = some p) :
    pa.toNat = 0x10000000 + 0x1000 * p.1.toNat + p.2.toNat ∧
      ((p.1 = 0#4 ∧ p.2.toNat < 0x100) ∨ p.1 = 1#4 ∨ (p.1 = 2#4 ∧ p.2.toNat < 0x200)) := by
  have := pa.isLt
  simp only [unitOfAddress, Config.cguBase, Config.intcBase, Config.tcuBase, Config.cguWindow, Config.intcWindow,
    Config.tcuWindow, BitVec.toNat_ofNat, Nat.reducePow, Nat.reduceMod, decide_eq_true_eq] at h
  repeat' split at h
  all_goals first
    | (cases h; done)
    | (cases h; simp; omega)

/-- No unit: the address lies in no window. -/
theorem unitOfAddress_eq_none (pa : BitVec 32) (h : unitOfAddress pa = none) :
    ¬ ((0x10000000 ≤ pa.toNat ∧ pa.toNat < 0x10000100) ∨ (0x10001000 ≤ pa.toNat ∧ pa.toNat < 0x10002000) ∨
      (0x10002000 ≤ pa.toNat ∧ pa.toNat < 0x10002200)) := by
  simp only [unitOfAddress, Config.cguBase, Config.intcBase, Config.tcuBase, Config.cguWindow, Config.intcWindow,
    Config.tcuWindow, BitVec.toNat_ofNat, Nat.reducePow, Nat.reduceMod, decide_eq_true_eq] at h
  repeat' split at h
  all_goals first
    | (cases h; done)
    | omega

end Sys2Proof
end

