-- ==== Sys2Proof/Laws/State.lean ====
section
/-! SUPPORT. One lemma per field per update of State, and the reads of a record after its write. -/
namespace Sys2Proof.Machine

@[simp] theorem setBank_ch (s : State) (b : Bank) (r : IntcBank) : (s.setBank b r).ch = s.ch := rfl
@[simp] theorem setBank_enable (s : State) (b : Bank) (r : IntcBank) : (s.setBank b r).enable = s.enable := rfl
@[simp] theorem setBank_flag (s : State) (b : Bank) (r : IntcBank) : (s.setBank b r).flag = s.flag := rfl
@[simp] theorem setBank_stop (s : State) (b : Bank) (r : IntcBank) : (s.setBank b r).stop = s.stop := rfl
@[simp] theorem setBank_mask (s : State) (b : Bank) (r : IntcBank) : (s.setBank b r).mask = s.mask := rfl
@[simp] theorem setBank_line (s : State) (b : Bank) (r : IntcBank) : (s.setBank b r).line = s.line := rfl
@[simp] theorem setBank_rdata (s : State) (b : Bank) (r : IntcBank) : (s.setBank b r).rdata = s.rdata := rfl
@[simp] theorem setBank_diags (s : State) (b : Bank) (r : IntcBank) : (s.setBank b r).diags = s.diags := rfl
@[simp] theorem setBank_cguLog (s : State) (b : Bank) (r : IntcBank) : (s.setBank b r).cguLog = s.cguLog := rfl
@[simp] theorem setBank_inputs (s : State) (b : Bank) (r : IntcBank) : (s.setBank b r).inputs = s.inputs := rfl

@[simp] theorem setChan_intc (s : State) (c : Chan) (r : Channel) : (s.setChan c r).intc = s.intc := rfl
@[simp] theorem setChan_enable (s : State) (c : Chan) (r : Channel) : (s.setChan c r).enable = s.enable := rfl
@[simp] theorem setChan_flag (s : State) (c : Chan) (r : Channel) : (s.setChan c r).flag = s.flag := rfl
@[simp] theorem setChan_stop (s : State) (c : Chan) (r : Channel) : (s.setChan c r).stop = s.stop := rfl
@[simp] theorem setChan_mask (s : State) (c : Chan) (r : Channel) : (s.setChan c r).mask = s.mask := rfl
@[simp] theorem setChan_line (s : State) (c : Chan) (r : Channel) : (s.setChan c r).line = s.line := rfl
@[simp] theorem setChan_rdata (s : State) (c : Chan) (r : Channel) : (s.setChan c r).rdata = s.rdata := rfl
@[simp] theorem setChan_diags (s : State) (c : Chan) (r : Channel) : (s.setChan c r).diags = s.diags := rfl
@[simp] theorem setChan_cguLog (s : State) (c : Chan) (r : Channel) : (s.setChan c r).cguLog = s.cguLog := rfl
@[simp] theorem setChan_inputs (s : State) (c : Chan) (r : Channel) : (s.setChan c r).inputs = s.inputs := rfl

@[simp] theorem setLine_intc (s : State) (k : Line) (v : Bool) : (s.setLine k v).intc = s.intc := rfl
@[simp] theorem setLine_ch (s : State) (k : Line) (v : Bool) : (s.setLine k v).ch = s.ch := rfl
@[simp] theorem setLine_enable (s : State) (k : Line) (v : Bool) : (s.setLine k v).enable = s.enable := rfl
@[simp] theorem setLine_flag (s : State) (k : Line) (v : Bool) : (s.setLine k v).flag = s.flag := rfl
@[simp] theorem setLine_stop (s : State) (k : Line) (v : Bool) : (s.setLine k v).stop = s.stop := rfl
@[simp] theorem setLine_mask (s : State) (k : Line) (v : Bool) : (s.setLine k v).mask = s.mask := rfl
@[simp] theorem setLine_rdata (s : State) (k : Line) (v : Bool) : (s.setLine k v).rdata = s.rdata := rfl
@[simp] theorem setLine_diags (s : State) (k : Line) (v : Bool) : (s.setLine k v).diags = s.diags := rfl
@[simp] theorem setLine_cguLog (s : State) (k : Line) (v : Bool) : (s.setLine k v).cguLog = s.cguLog := rfl
@[simp] theorem setLine_inputs (s : State) (k : Line) (v : Bool) : (s.setLine k v).inputs = s.inputs := rfl

@[simp] theorem respond_intc (s : State) (v : RData) : (s.respond v).intc = s.intc := rfl
@[simp] theorem respond_ch (s : State) (v : RData) : (s.respond v).ch = s.ch := rfl
@[simp] theorem respond_enable (s : State) (v : RData) : (s.respond v).enable = s.enable := rfl
@[simp] theorem respond_flag (s : State) (v : RData) : (s.respond v).flag = s.flag := rfl
@[simp] theorem respond_stop (s : State) (v : RData) : (s.respond v).stop = s.stop := rfl
@[simp] theorem respond_mask (s : State) (v : RData) : (s.respond v).mask = s.mask := rfl
@[simp] theorem respond_line (s : State) (v : RData) : (s.respond v).line = s.line := rfl
@[simp] theorem respond_diags (s : State) (v : RData) : (s.respond v).diags = s.diags := rfl
@[simp] theorem respond_cguLog (s : State) (v : RData) : (s.respond v).cguLog = s.cguLog := rfl
@[simp] theorem respond_inputs (s : State) (v : RData) : (s.respond v).inputs = s.inputs := rfl

@[simp] theorem emit_intc (s : State) (d : Diag) : (s.emit d).intc = s.intc := rfl
@[simp] theorem emit_ch (s : State) (d : Diag) : (s.emit d).ch = s.ch := rfl
@[simp] theorem emit_enable (s : State) (d : Diag) : (s.emit d).enable = s.enable := rfl
@[simp] theorem emit_flag (s : State) (d : Diag) : (s.emit d).flag = s.flag := rfl
@[simp] theorem emit_stop (s : State) (d : Diag) : (s.emit d).stop = s.stop := rfl
@[simp] theorem emit_mask (s : State) (d : Diag) : (s.emit d).mask = s.mask := rfl
@[simp] theorem emit_line (s : State) (d : Diag) : (s.emit d).line = s.line := rfl
@[simp] theorem emit_rdata (s : State) (d : Diag) : (s.emit d).rdata = s.rdata := rfl
@[simp] theorem emit_cguLog (s : State) (d : Diag) : (s.emit d).cguLog = s.cguLog := rfl
@[simp] theorem emit_inputs (s : State) (d : Diag) : (s.emit d).inputs = s.inputs := rfl

@[simp] theorem logCgu_intc (s : State) (x : CguAccess) : (s.logCgu x).intc = s.intc := rfl
@[simp] theorem logCgu_ch (s : State) (x : CguAccess) : (s.logCgu x).ch = s.ch := rfl
@[simp] theorem logCgu_enable (s : State) (x : CguAccess) : (s.logCgu x).enable = s.enable := rfl
@[simp] theorem logCgu_flag (s : State) (x : CguAccess) : (s.logCgu x).flag = s.flag := rfl
@[simp] theorem logCgu_stop (s : State) (x : CguAccess) : (s.logCgu x).stop = s.stop := rfl
@[simp] theorem logCgu_mask (s : State) (x : CguAccess) : (s.logCgu x).mask = s.mask := rfl
@[simp] theorem logCgu_line (s : State) (x : CguAccess) : (s.logCgu x).line = s.line := rfl
@[simp] theorem logCgu_rdata (s : State) (x : CguAccess) : (s.logCgu x).rdata = s.rdata := rfl
@[simp] theorem logCgu_diags (s : State) (x : CguAccess) : (s.logCgu x).diags = s.diags := rfl
@[simp] theorem logCgu_inputs (s : State) (x : CguAccess) : (s.logCgu x).inputs = s.inputs := rfl

@[simp] theorem setWord_intc (s : State) (w : GlobalWord) (v : Word) : (s.setWord w v).intc = s.intc := by
  cases w <;> rfl
@[simp] theorem setWord_ch (s : State) (w : GlobalWord) (v : Word) : (s.setWord w v).ch = s.ch := by
  cases w <;> rfl
@[simp] theorem setWord_line (s : State) (w : GlobalWord) (v : Word) : (s.setWord w v).line = s.line := by
  cases w <;> rfl
@[simp] theorem setWord_rdata (s : State) (w : GlobalWord) (v : Word) : (s.setWord w v).rdata = s.rdata := by
  cases w <;> rfl
@[simp] theorem setWord_diags (s : State) (w : GlobalWord) (v : Word) : (s.setWord w v).diags = s.diags := by
  cases w <;> rfl
@[simp] theorem setWord_cguLog (s : State) (w : GlobalWord) (v : Word) : (s.setWord w v).cguLog = s.cguLog := by
  cases w <;> rfl
@[simp] theorem setWord_inputs (s : State) (w : GlobalWord) (v : Word) : (s.setWord w v).inputs = s.inputs := by
  cases w <;> rfl

@[simp] theorem rearm_intc (c : Chan) (s : State) : (rearm c s).intc = s.intc := rfl
@[simp] theorem rearm_enable (c : Chan) (s : State) : (rearm c s).enable = s.enable := rfl
@[simp] theorem rearm_flag (c : Chan) (s : State) : (rearm c s).flag = s.flag := rfl
@[simp] theorem rearm_stop (c : Chan) (s : State) : (rearm c s).stop = s.stop := rfl
@[simp] theorem rearm_mask (c : Chan) (s : State) : (rearm c s).mask = s.mask := rfl
@[simp] theorem rearm_line (c : Chan) (s : State) : (rearm c s).line = s.line := rfl
@[simp] theorem rearm_rdata (c : Chan) (s : State) : (rearm c s).rdata = s.rdata := rfl
@[simp] theorem rearm_diags (c : Chan) (s : State) : (rearm c s).diags = s.diags := rfl
@[simp] theorem rearm_cguLog (c : Chan) (s : State) : (rearm c s).cguLog = s.cguLog := rfl
@[simp] theorem rearm_inputs (c : Chan) (s : State) : (rearm c s).inputs = s.inputs := rfl

@[simp] theorem intcRecompute_ch (b : Bank) (s : State) : (intcRecompute b s).ch = s.ch := rfl
@[simp] theorem intcRecompute_enable (b : Bank) (s : State) : (intcRecompute b s).enable = s.enable := rfl
@[simp] theorem intcRecompute_flag (b : Bank) (s : State) : (intcRecompute b s).flag = s.flag := rfl
@[simp] theorem intcRecompute_stop (b : Bank) (s : State) : (intcRecompute b s).stop = s.stop := rfl
@[simp] theorem intcRecompute_mask (b : Bank) (s : State) : (intcRecompute b s).mask = s.mask := rfl
@[simp] theorem intcRecompute_line (b : Bank) (s : State) : (intcRecompute b s).line = s.line := rfl
@[simp] theorem intcRecompute_rdata (b : Bank) (s : State) : (intcRecompute b s).rdata = s.rdata := rfl
@[simp] theorem intcRecompute_diags (b : Bank) (s : State) : (intcRecompute b s).diags = s.diags := rfl
@[simp] theorem intcRecompute_cguLog (b : Bank) (s : State) : (intcRecompute b s).cguLog = s.cguLog := rfl
@[simp] theorem intcRecompute_inputs (b : Bank) (s : State) : (intcRecompute b s).inputs = s.inputs := rfl

@[simp] theorem intcDrive_ch (b : Bank) (i : Fin 32) (lv : Bool) (s : State) : (intcDrive b i lv s).ch = s.ch := rfl
@[simp] theorem intcDrive_enable (b : Bank) (i : Fin 32) (lv : Bool) (s : State) : (intcDrive b i lv s).enable = s.enable := rfl
@[simp] theorem intcDrive_flag (b : Bank) (i : Fin 32) (lv : Bool) (s : State) : (intcDrive b i lv s).flag = s.flag := rfl
@[simp] theorem intcDrive_stop (b : Bank) (i : Fin 32) (lv : Bool) (s : State) : (intcDrive b i lv s).stop = s.stop := rfl
@[simp] theorem intcDrive_mask (b : Bank) (i : Fin 32) (lv : Bool) (s : State) : (intcDrive b i lv s).mask = s.mask := rfl
@[simp] theorem intcDrive_line (b : Bank) (i : Fin 32) (lv : Bool) (s : State) : (intcDrive b i lv s).line = s.line := rfl
@[simp] theorem intcDrive_rdata (b : Bank) (i : Fin 32) (lv : Bool) (s : State) : (intcDrive b i lv s).rdata = s.rdata := rfl
@[simp] theorem intcDrive_diags (b : Bank) (i : Fin 32) (lv : Bool) (s : State) : (intcDrive b i lv s).diags = s.diags := rfl
@[simp] theorem intcDrive_cguLog (b : Bank) (i : Fin 32) (lv : Bool) (s : State) : (intcDrive b i lv s).cguLog = s.cguLog := rfl
@[simp] theorem intcDrive_inputs (b : Bank) (i : Fin 32) (lv : Bool) (s : State) : (intcDrive b i lv s).inputs = s.inputs := rfl

@[simp] theorem intcMaskWrite_ch (op : BitsetOp) (b : Bank) (v : Word) (s : State) : (intcMaskWrite op b v s).ch = s.ch := rfl
@[simp] theorem intcMaskWrite_enable (op : BitsetOp) (b : Bank) (v : Word) (s : State) : (intcMaskWrite op b v s).enable = s.enable := rfl
@[simp] theorem intcMaskWrite_flag (op : BitsetOp) (b : Bank) (v : Word) (s : State) : (intcMaskWrite op b v s).flag = s.flag := rfl
@[simp] theorem intcMaskWrite_stop (op : BitsetOp) (b : Bank) (v : Word) (s : State) : (intcMaskWrite op b v s).stop = s.stop := rfl
@[simp] theorem intcMaskWrite_mask (op : BitsetOp) (b : Bank) (v : Word) (s : State) : (intcMaskWrite op b v s).mask = s.mask := rfl
@[simp] theorem intcMaskWrite_line (op : BitsetOp) (b : Bank) (v : Word) (s : State) : (intcMaskWrite op b v s).line = s.line := rfl
@[simp] theorem intcMaskWrite_rdata (op : BitsetOp) (b : Bank) (v : Word) (s : State) : (intcMaskWrite op b v s).rdata = s.rdata := rfl
@[simp] theorem intcMaskWrite_diags (op : BitsetOp) (b : Bank) (v : Word) (s : State) : (intcMaskWrite op b v s).diags = s.diags := rfl
@[simp] theorem intcMaskWrite_cguLog (op : BitsetOp) (b : Bank) (v : Word) (s : State) : (intcMaskWrite op b v s).cguLog = s.cguLog := rfl
@[simp] theorem intcMaskWrite_inputs (op : BitsetOp) (b : Bank) (v : Word) (s : State) : (intcMaskWrite op b v s).inputs = s.inputs := rfl

@[simp] theorem chanRecompute_intc (c : Chan) (s : State) : (chanRecompute c s).intc = s.intc := rfl
@[simp] theorem chanRecompute_enable (c : Chan) (s : State) : (chanRecompute c s).enable = s.enable := rfl
@[simp] theorem chanRecompute_stop (c : Chan) (s : State) : (chanRecompute c s).stop = s.stop := rfl
@[simp] theorem chanRecompute_mask (c : Chan) (s : State) : (chanRecompute c s).mask = s.mask := rfl
@[simp] theorem chanRecompute_line (c : Chan) (s : State) : (chanRecompute c s).line = s.line := rfl
@[simp] theorem chanRecompute_rdata (c : Chan) (s : State) : (chanRecompute c s).rdata = s.rdata := rfl
@[simp] theorem chanRecompute_diags (c : Chan) (s : State) : (chanRecompute c s).diags = s.diags := rfl
@[simp] theorem chanRecompute_cguLog (c : Chan) (s : State) : (chanRecompute c s).cguLog = s.cguLog := rfl
@[simp] theorem chanRecompute_inputs (c : Chan) (s : State) : (chanRecompute c s).inputs = s.inputs := rfl

@[simp] theorem driveLine_ch (P : Params) (k : Line) (s : State) : (driveLine P k s).ch = s.ch := rfl
@[simp] theorem driveLine_enable (P : Params) (k : Line) (s : State) : (driveLine P k s).enable = s.enable := rfl
@[simp] theorem driveLine_flag (P : Params) (k : Line) (s : State) : (driveLine P k s).flag = s.flag := rfl
@[simp] theorem driveLine_stop (P : Params) (k : Line) (s : State) : (driveLine P k s).stop = s.stop := rfl
@[simp] theorem driveLine_mask (P : Params) (k : Line) (s : State) : (driveLine P k s).mask = s.mask := rfl
@[simp] theorem driveLine_rdata (P : Params) (k : Line) (s : State) : (driveLine P k s).rdata = s.rdata := rfl
@[simp] theorem driveLine_diags (P : Params) (k : Line) (s : State) : (driveLine P k s).diags = s.diags := rfl
@[simp] theorem driveLine_cguLog (P : Params) (k : Line) (s : State) : (driveLine P k s).cguLog = s.cguLog := rfl
@[simp] theorem driveLine_inputs (P : Params) (k : Line) (s : State) : (driveLine P k s).inputs = s.inputs := rfl

@[simp] theorem linesRecompute_ch (P : Params) (s : State) : (linesRecompute P s).ch = s.ch := rfl
@[simp] theorem linesRecompute_enable (P : Params) (s : State) : (linesRecompute P s).enable = s.enable := rfl
@[simp] theorem linesRecompute_flag (P : Params) (s : State) : (linesRecompute P s).flag = s.flag := rfl
@[simp] theorem linesRecompute_stop (P : Params) (s : State) : (linesRecompute P s).stop = s.stop := rfl
@[simp] theorem linesRecompute_mask (P : Params) (s : State) : (linesRecompute P s).mask = s.mask := rfl
@[simp] theorem linesRecompute_rdata (P : Params) (s : State) : (linesRecompute P s).rdata = s.rdata := rfl
@[simp] theorem linesRecompute_diags (P : Params) (s : State) : (linesRecompute P s).diags = s.diags := rfl
@[simp] theorem linesRecompute_cguLog (P : Params) (s : State) : (linesRecompute P s).cguLog = s.cguLog := rfl
@[simp] theorem linesRecompute_inputs (P : Params) (s : State) : (linesRecompute P s).inputs = s.inputs := rfl

@[simp] theorem respond_rdata (s : State) (v : RData) : (s.respond v).rdata = v := rfl
@[simp] theorem emit_diags (s : State) (d : Diag) : (s.emit d).diags = s.diags ++ [d] := rfl
@[simp] theorem logCgu_cguLog (s : State) (x : CguAccess) :
    (s.logCgu x).cguLog = s.cguLog ++ [x] := rfl

/-! A bank, a channel or a line after the write of one -/

@[simp] theorem bank_setBank_same (s : State) (b : Bank) (r : IntcBank) :
    (s.setBank b r).bank b = r := by
  cases b <;> rfl

theorem bank_setBank_ne (s : State) (b d : Bank) (r : IntcBank) (h : d ≠ b) :
    (s.setBank b r).bank d = s.bank d := by
  cases b <;> cases d <;> first | rfl | exact absurd rfl h

@[simp] theorem chan_setChan_same (s : State) (c : Chan) (r : Channel) :
    (s.setChan c r).chan c = r := by
  cases c <;> rfl

theorem chan_setChan_ne (s : State) (c d : Chan) (r : Channel) (h : d ≠ c) :
    (s.setChan c r).chan d = s.chan d := by
  cases c <;> cases d <;> first | rfl | exact absurd rfl h

@[simp] theorem lineOf_setLine_same (s : State) (k : Line) (v : Bool) :
    (s.setLine k v).lineOf k = v := by
  cases k <;> rfl

theorem lineOf_setLine_ne (s : State) (k j : Line) (v : Bool) (h : j ≠ k) :
    (s.setLine k v).lineOf j = s.lineOf j := by
  cases k <;> cases j <;> first | rfl | exact absurd rfl h

@[simp] theorem setChan_chan (s : State) (c : Chan) : s.setChan c (s.chan c) = s := by
  cases c <;> rfl

@[simp] theorem setChan_setChan (s : State) (c : Chan) (q r : Channel) :
    (s.setChan c q).setChan c r = s.setChan c r := by
  cases c <;> rfl

theorem setChan_comm (s : State) (c d : Chan) (q r : Channel) (h : c ≠ d) :
    (s.setChan c q).setChan d r = (s.setChan d r).setChan c q := by
  cases c <;> cases d <;> first | rfl | exact absurd rfl h

/-- A channel's record depends on the channel array alone. -/
theorem chan_congr (s t : State) (c : Chan) (h : s.ch = t.ch) : s.chan c = t.chan c := by
  cases c <;> simp only [State.chan, h]

/-- A bank's registers depend on the banks alone. -/
theorem bank_congr (s t : State) (b : Bank) (h : s.intc = t.intc) : s.bank b = t.bank b := by
  cases b <;> simp only [State.bank, h]

@[simp] theorem word_setWord_same (s : State) (w : GlobalWord) (v : Word) :
    (s.setWord w v).word w = v := by
  cases w <;> rfl

theorem word_setWord_ne (s : State) (w x : GlobalWord) (v : Word) (h : x ≠ w) :
    (s.setWord w v).word x = s.word x := by
  cases w <;> cases x <;> first | rfl | exact absurd rfl h

end Sys2Proof.Machine
end

