-- ==== Sys2Proof/Laws/Ops.lean ====
section
/-! SUPPORT. What each shared operation does, said once. -/
namespace Sys2Proof.Machine
open Sys2Proof.Safety

/-! Parameters -/

theorem skip_ne (a n : Nat) : Config.skip a n ≠ a := by
  unfold Config.skip; split <;> omega

theorem skip_le (a n : Nat) : n ≤ Config.skip a n ∧ Config.skip a n ≤ n + 1 := by
  unfold Config.skip; split <;> omega

/-- The picks give parameters in the ranges of R8 and R10. -/
theorem paramsOf_ok (inc : Fin 0xFFFFFFFF) (p0 : Fin 32) (p1 : Fin 31) (p2 : Fin 30) :
    (Config.paramsOf inc p0 p1 p2).Ok := by
  have hi := inc.isLt
  have h0 := p0.isLt
  have h1 := p1.isLt
  have h2 := p2.isLt
  refine ⟨?_, ?_, ?_, ?_⟩
  · intro h
    have := congrArg BitVec.toNat h
    simp only [Config.paramsOf, BitVec.toNat_ofNat] at this
    omega
  all_goals
    intro h
    have := congrArg Fin.val h
    simp only [Config.paramsOf, Config.skip, Fin.val_ofNat] at this
    repeat' split at this
    all_goals omega

/-- The block's parameters are in the ranges of R8 and R10. -/
theorem params_ok : Config.params.Ok := paramsOf_ok _ _ _ _

/-! The INTC -/

theorem bne_zero_eq (w : Word) : (w != 0#32) = decide (w ≠ 0#32) := by
  by_cases h : w = 0#32 <;> simp [h]

theorem intcRecompute_eq (b : Bank) (s : State) :
    intcRecompute b s = s.setBank b (bankOf (s.bank b).source (s.bank b).mask) := by
  simp only [intcRecompute, bankOf, bne_zero_eq]

/-- `intc_drive`: one input bit takes the level, the bank is recomputed, nothing else changes. -/
theorem intcDrive_eq (b : Bank) (i : Fin 32) (lv : Bool) (s : State) :
    intcDrive b i lv s =
      s.setBank b (bankOf (withBit (s.bank b).source i.val lv) (s.bank b).mask) := by
  have e : ((s.bank b).source &&& ~~~bit i.val) ||| (boolWord lv <<< i.val) =
      withBit (s.bank b).source i.val lv := by
    cases lv
    · simp [withBit, boolWord]
    · simp only [withBit, boolWord, bit, if_true]
      ext j hj
      simp only [BitVec.getElem_or, BitVec.getElem_and, BitVec.getElem_not]
      by_cases h : (1#32 <<< i.val)[j] = true <;> simp [h]
  simp only [intcDrive, intcRecompute_eq, bank_setBank_same, e]
  cases b <;> rfl

/-- A mask write: the mask takes its new value, the bank is recomputed, nothing else changes. -/
theorem intcMaskWrite_eq (op : BitsetOp) (b : Bank) (v : Word) (s : State) :
    intcMaskWrite op b v s =
      s.setBank b (bankOf (s.bank b).source (op.apply (s.bank b).mask v)) := by
  simp only [intcMaskWrite, intcRecompute_eq, bank_setBank_same]
  cases b <;> rfl

/-! The TCU -/

/-- `tcu_lines_recompute`: the lines and the three inputs they drive take the levels of the flag and mask
words, bank 0 is recomputed, nothing else changes. -/
theorem linesRecompute_eq (P : Params) (s : State) : linesRecompute P s = withLines P s := by
  simp only [linesRecompute, driveLine, intcDrive_eq, lineLevel, bne_zero_eq]
  rfl

/-- `BIT(k)` has bit `k` and no other. -/
theorem bit_getLsbD (k n : Nat) (hn : n < 32) : (bit k).getLsbD n = decide (n = k) := by
  rw [Bool.eq_iff_iff]
  simp only [bit, BitVec.getLsbD_shiftLeft, BitVec.getLsbD_one]
  simp
  omega

/-- `withBit` writes one bit. -/
theorem withBit_getLsbD (w : Word) (i j : Nat) (lv : Bool) (hj : j < 32) :
    (withBit w i lv).getLsbD j = if j = i then lv else w.getLsbD j := by
  have e := bit_getLsbD i j hj
  cases lv <;>
    simp only [withBit, if_true, if_false, BitVec.getLsbD_or, BitVec.getLsbD_and, BitVec.getLsbD_not, e,
      Bool.false_eq_true] <;>
    by_cases h : j = i <;> simp [h, hj]

/-- Three distinct inputs keep the levels they are driven to. -/
theorem withLines_wires (P : Params) (s : State) (h : P.Ok) : InputsFollowLines P (withLines P s) := by
  have h01 : P.irqSrc0.val ≠ P.irqSrc1.val := fun e => h.2.1 (Fin.ext e)
  have h02 : P.irqSrc0.val ≠ P.irqSrc2.val := fun e => h.2.2.1 (Fin.ext e)
  have h12 : P.irqSrc1.val ≠ P.irqSrc2.val := fun e => h.2.2.2 (Fin.ext e)
  refine ⟨?_, ?_, ?_⟩ <;>
    simp only [withLines, bankOf, withBit_getLsbD _ _ _ _ (Fin.isLt _), h01, h02, h12, if_true, if_false]

/-- `tcu_chan_recompute(c)`: two flags may be added, the count may become 0, nothing else changes. -/
theorem chanRecompute_eq (c : Chan) (s : State) : chanRecompute c s = withChannel c (s.chan c) s := by
  have h : halfFlag c (s.chan c) =
      if c ≠ .ost ∧ (s.chan c).half ≤ (s.chan c).count then bit (16 + c.index) else 0#32 := by
    cases c <;> simp [halfFlag, halfBit]
  simp only [chanRecompute, withChannel, h, overFlag, overBit, autoReload]

theorem recomputeList_eq (cs : List Chan) (s : State) :
    recomputeList cs s = cs.foldl (fun t c => withChannel c (t.chan c) t) s := by
  induction cs generalizing s with
  | nil => rfl
  | cons c cs ih => rw [recomputeList, ih, chanRecompute_eq]; rfl

/-- `tcu_recompute_all`: every channel recomputed. -/
theorem recomputeAll_eq (s : State) : recomputeAll s = withAllChannels s := recomputeList_eq _ s

/-- A channel write: the new record recomputed, then the lines. -/
theorem channelWrite_eq (P : Params) (c : Chan) (f : Channel → Channel) (s : State) :
    channelWrite P c f s = withLines P (withChannel c (f (s.chan c)) s) := by
  simp only [channelWrite, linesRecompute_eq, chanRecompute_eq, chan_setChan_same, withChannel]
  simp only [setChan_setChan, setChan_flag]

/-- A global write: the new word, every channel recomputed, then the lines. -/
theorem globalWrite_eq (P : Params) (w : GlobalWord) (op : BitsetOp) (v : Word) (s : State) :
    globalWrite P w op v s =
      withLines P (withAllChannels (s.setWord w (op.apply (s.word w) v))) := by
  simp only [globalWrite, linesRecompute_eq, recomputeAll_eq]

end Sys2Proof.Machine
end

