-- ==== Sys2Proof/Laws/PerInstr.lean ====
section
/-! SUPPORT. For every operation: its label has the bits that its row of spec/opcode_table.json fixes. -/
namespace Sys2Proof.Laws

/-- A fixed field of a row: its lowest bit, its width and its value. -/
structure TableRow.Field where
  lo : Nat
  width : Nat
  value : Nat

/-- The label holds the fields' values. -/
def TableRow.holds (L : BitVec 20) (fs : List TableRow.Field) : Bool :=
  fs.all fun f => L.toNat / 2 ^ f.lo % 2 ^ f.width == f.value

/-- The fixed fields of the operation's row of spec/opcode_table.json. -/
def TableRow.fixed : Instr → List TableRow.Field
  | .tick0 => [⟨0, 20, 0x80000⟩]
  | .tick1 => [⟨0, 20, 0x80001⟩]
  | .tick2 => [⟨0, 20, 0x80002⟩]
  | .tick3 => [⟨0, 20, 0x80003⟩]
  | .tick4 => [⟨0, 20, 0x80004⟩]
  | .tick5 => [⟨0, 20, 0x80005⟩]
  | .tick6 => [⟨0, 20, 0x80006⟩]
  | .tick7 => [⟨0, 20, 0x80007⟩]
  | .tick15 => [⟨0, 20, 0x8000f⟩]
  | .req _ _ => [⟨9, 11, 0x480⟩]
  | .reset => [⟨0, 20, 0xa0000⟩]
  | .reservedEvent _ _ => [⟨19, 1, 0x1⟩]
  | .rdCgu _ _ => [⟨12, 4, 0x0⟩, ⟨18, 2, 0x0⟩]
  | .wrCgu _ _ _ => [⟨12, 4, 0x0⟩, ⟨18, 2, 0x1⟩]
  | .intcUnsupported _ _ _ => [⟨12, 4, 0x1⟩, ⟨19, 1, 0x0⟩]
  | .tcuUnsupported _ _ _ => [⟨12, 4, 0x2⟩, ⟨19, 1, 0x0⟩]
  | .rdIntcSource _ => [⟨0, 5, 0x0⟩, ⟨12, 8, 0x21⟩]
  | .wrIntcSource _ _ => [⟨0, 5, 0x0⟩, ⟨12, 8, 0x61⟩]
  | .rdIntcMask _ => [⟨0, 5, 0x4⟩, ⟨12, 8, 0x21⟩]
  | .wrIntcMask _ _ => [⟨0, 5, 0x4⟩, ⟨12, 8, 0x61⟩]
  | .rdIntcMaskSet _ => [⟨0, 5, 0x8⟩, ⟨12, 8, 0x21⟩]
  | .wrIntcMaskSet _ _ => [⟨0, 5, 0x8⟩, ⟨12, 8, 0x61⟩]
  | .rdIntcMaskClr _ => [⟨0, 5, 0xc⟩, ⟨12, 8, 0x21⟩]
  | .wrIntcMaskClr _ _ => [⟨0, 5, 0xc⟩, ⟨12, 8, 0x61⟩]
  | .rdIntcPending _ => [⟨0, 5, 0x10⟩, ⟨12, 8, 0x21⟩]
  | .wrIntcPending _ _ => [⟨0, 5, 0x10⟩, ⟨12, 8, 0x61⟩]
  | .intcReserved14 _ _ => [⟨0, 5, 0x14⟩, ⟨12, 6, 0x21⟩, ⟨19, 1, 0x0⟩]
  | .intcReserved18 _ _ => [⟨0, 5, 0x18⟩, ⟨12, 6, 0x21⟩, ⟨19, 1, 0x0⟩]
  | .intcReserved1c _ _ => [⟨0, 5, 0x1c⟩, ⟨12, 6, 0x21⟩, ⟨19, 1, 0x0⟩]
  | .intcBankRange _ _ => [⟨0, 2, 0x0⟩, ⟨12, 6, 0x21⟩, ⟨19, 1, 0x0⟩]
  | .rdTcuEnable => [⟨0, 20, 0x22010⟩]
  | .wrTcuEnable _ => [⟨0, 20, 0x62010⟩]
  | .rdTcuEnableSet => [⟨0, 20, 0x22014⟩]
  | .wrTcuEnableSet _ => [⟨0, 20, 0x62014⟩]
  | .rdTcuEnableClr => [⟨0, 20, 0x22018⟩]
  | .wrTcuEnableClr _ => [⟨0, 20, 0x62018⟩]
  | .rdTcuStop => [⟨0, 20, 0x2201c⟩]
  | .wrTcuStop _ => [⟨0, 20, 0x6201c⟩]
  | .rdTcuFlag => [⟨0, 20, 0x22020⟩]
  | .wrTcuFlag _ => [⟨0, 20, 0x62020⟩]
  | .rdTcuFlagSet => [⟨0, 20, 0x22024⟩]
  | .wrTcuFlagSet _ => [⟨0, 20, 0x62024⟩]
  | .rdTcuFlagClr => [⟨0, 20, 0x22028⟩]
  | .wrTcuFlagClr _ => [⟨0, 20, 0x62028⟩]
  | .rdTcuStopSet => [⟨0, 20, 0x2202c⟩]
  | .wrTcuStopSet _ => [⟨0, 20, 0x6202c⟩]
  | .rdTcuMask => [⟨0, 20, 0x22030⟩]
  | .wrTcuMask _ => [⟨0, 20, 0x62030⟩]
  | .rdTcuMaskSet => [⟨0, 20, 0x22034⟩]
  | .wrTcuMaskSet _ => [⟨0, 20, 0x62034⟩]
  | .rdTcuMaskClr => [⟨0, 20, 0x22038⟩]
  | .wrTcuMaskClr _ => [⟨0, 20, 0x62038⟩]
  | .rdTcuStopClr => [⟨0, 20, 0x2203c⟩]
  | .wrTcuStopClr _ => [⟨0, 20, 0x6203c⟩]
  | .rdTcuFull0 => [⟨0, 20, 0x22040⟩]
  | .wrTcuFull0 _ => [⟨0, 20, 0x62040⟩]
  | .rdTcuHalf0 => [⟨0, 20, 0x22044⟩]
  | .wrTcuHalf0 _ => [⟨0, 20, 0x62044⟩]
  | .rdTcuCount0 => [⟨0, 20, 0x22048⟩]
  | .wrTcuCount0 _ => [⟨0, 20, 0x62048⟩]
  | .rdTcuCtrl0 => [⟨0, 20, 0x2204c⟩]
  | .wrTcuCtrl0 _ => [⟨0, 20, 0x6204c⟩]
  | .rdTcuFull1 => [⟨0, 20, 0x22050⟩]
  | .wrTcuFull1 _ => [⟨0, 20, 0x62050⟩]
  | .rdTcuHalf1 => [⟨0, 20, 0x22054⟩]
  | .wrTcuHalf1 _ => [⟨0, 20, 0x62054⟩]
  | .rdTcuCount1 => [⟨0, 20, 0x22058⟩]
  | .wrTcuCount1 _ => [⟨0, 20, 0x62058⟩]
  | .rdTcuCtrl1 => [⟨0, 20, 0x2205c⟩]
  | .wrTcuCtrl1 _ => [⟨0, 20, 0x6205c⟩]
  | .rdTcuFull2 => [⟨0, 20, 0x22060⟩]
  | .wrTcuFull2 _ => [⟨0, 20, 0x62060⟩]
  | .rdTcuHalf2 => [⟨0, 20, 0x22064⟩]
  | .wrTcuHalf2 _ => [⟨0, 20, 0x62064⟩]
  | .rdTcuCount2 => [⟨0, 20, 0x22068⟩]
  | .wrTcuCount2 _ => [⟨0, 20, 0x62068⟩]
  | .rdTcuCtrl2 => [⟨0, 20, 0x2206c⟩]
  | .wrTcuCtrl2 _ => [⟨0, 20, 0x6206c⟩]
  | .rdTcuFull3 => [⟨0, 20, 0x22070⟩]
  | .wrTcuFull3 _ => [⟨0, 20, 0x62070⟩]
  | .rdTcuHalf3 => [⟨0, 20, 0x22074⟩]
  | .wrTcuHalf3 _ => [⟨0, 20, 0x62074⟩]
  | .rdTcuCount3 => [⟨0, 20, 0x22078⟩]
  | .wrTcuCount3 _ => [⟨0, 20, 0x62078⟩]
  | .rdTcuCtrl3 => [⟨0, 20, 0x2207c⟩]
  | .wrTcuCtrl3 _ => [⟨0, 20, 0x6207c⟩]
  | .rdTcuFull4 => [⟨0, 20, 0x22080⟩]
  | .wrTcuFull4 _ => [⟨0, 20, 0x62080⟩]
  | .rdTcuHalf4 => [⟨0, 20, 0x22084⟩]
  | .wrTcuHalf4 _ => [⟨0, 20, 0x62084⟩]
  | .rdTcuCount4 => [⟨0, 20, 0x22088⟩]
  | .wrTcuCount4 _ => [⟨0, 20, 0x62088⟩]
  | .rdTcuCtrl4 => [⟨0, 20, 0x2208c⟩]
  | .wrTcuCtrl4 _ => [⟨0, 20, 0x6208c⟩]
  | .rdTcuFull5 => [⟨0, 20, 0x22090⟩]
  | .wrTcuFull5 _ => [⟨0, 20, 0x62090⟩]
  | .rdTcuHalf5 => [⟨0, 20, 0x22094⟩]
  | .wrTcuHalf5 _ => [⟨0, 20, 0x62094⟩]
  | .rdTcuCount5 => [⟨0, 20, 0x22098⟩]
  | .wrTcuCount5 _ => [⟨0, 20, 0x62098⟩]
  | .rdTcuCtrl5 => [⟨0, 20, 0x2209c⟩]
  | .wrTcuCtrl5 _ => [⟨0, 20, 0x6209c⟩]
  | .rdTcuFull6 => [⟨0, 20, 0x220a0⟩]
  | .wrTcuFull6 _ => [⟨0, 20, 0x620a0⟩]
  | .rdTcuHalf6 => [⟨0, 20, 0x220a4⟩]
  | .wrTcuHalf6 _ => [⟨0, 20, 0x620a4⟩]
  | .rdTcuCount6 => [⟨0, 20, 0x220a8⟩]
  | .wrTcuCount6 _ => [⟨0, 20, 0x620a8⟩]
  | .rdTcuCtrl6 => [⟨0, 20, 0x220ac⟩]
  | .wrTcuCtrl6 _ => [⟨0, 20, 0x620ac⟩]
  | .rdTcuFull7 => [⟨0, 20, 0x220b0⟩]
  | .wrTcuFull7 _ => [⟨0, 20, 0x620b0⟩]
  | .rdTcuHalf7 => [⟨0, 20, 0x220b4⟩]
  | .wrTcuHalf7 _ => [⟨0, 20, 0x620b4⟩]
  | .rdTcuCount7 => [⟨0, 20, 0x220b8⟩]
  | .wrTcuCount7 _ => [⟨0, 20, 0x620b8⟩]
  | .rdTcuCtrl7 => [⟨0, 20, 0x220bc⟩]
  | .wrTcuCtrl7 _ => [⟨0, 20, 0x620bc⟩]
  | .rdTcuFull15 => [⟨0, 20, 0x22130⟩]
  | .wrTcuFull15 _ => [⟨0, 20, 0x62130⟩]
  | .rdTcuHalf15 => [⟨0, 20, 0x22134⟩]
  | .wrTcuHalf15 _ => [⟨0, 20, 0x62134⟩]
  | .rdTcuCount15 => [⟨0, 20, 0x22138⟩]
  | .wrTcuCount15 _ => [⟨0, 20, 0x62138⟩]
  | .rdTcuCtrl15 => [⟨0, 20, 0x2213c⟩]
  | .wrTcuCtrl15 _ => [⟨0, 20, 0x6213c⟩]
  | .tcuReserved _ _ => [⟨0, 2, 0x0⟩, ⟨12, 6, 0x22⟩, ⟨19, 1, 0x0⟩]
  | .notThisBlock _ _ _ _ => [⟨19, 1, 0x0⟩]

/-- The encoding of a well-formed operation has the bits its row fixes. -/
def TableRow.Statement (i : Instr) : Prop :=
  i.wellFormed = true → TableRow.holds (encode i).label (TableRow.fixed i) = true

/-- The fixed fields of a bus row: class, direction or size, unit. -/
theorem TableRow.busFields (w : Bool) (sz : Size) (u : BitVec 4) (off : BitVec 12) :
    (busLabel w sz u off).toNat / 2 ^ 19 % 2 = 0 ∧
    (busLabel w sz u off).toNat / 2 ^ 18 % 4 = w.toNat ∧
    (busLabel w sz u off).toNat / 2 ^ 12 % 16 = u.toNat ∧
    (busLabel w sz u off).toNat / 2 ^ 12 % 64 = sz.code.toNat * 16 + u.toNat ∧
    (busLabel w sz u off).toNat % 4 = off.toNat % 4 := by
  have hw : w.toNat ≤ 1 := Bool.toNat_le w
  have := sz.code.isLt
  have := u.isLt
  have := off.isLt
  rw [busLabel_toNat]
  omega

/-- An aligned offset is a multiple of 4. -/
theorem TableRow.aligned (off : BitVec 12) (h : isAligned off = true) : off.toNat % 4 = 0 := by
  have := congrArg BitVec.toNat (eq_of_beq h)
  rw [BitVec.extractLsb'_toNat] at this
  simpa using this

/-- The fixed field of an event row: the class. -/
theorem TableRow.eventFields (ek : BitVec 3) (p : BitVec 16) :
    (eventLabel ek p).toNat / 2 ^ 19 % 2 = 1 := by
  have := ek.isLt
  have := p.isLt
  rw [eventLabel_toNat]
  omega

/-- The fixed fields of the request row. -/
theorem TableRow.reqFields (lv : Bool) (idx : BitVec 8) :
    (reqOp lv idx).label.toNat / 2 ^ 9 % 2 ^ 11 = 0x480 := by
  have hw : lv.toNat ≤ 1 := Bool.toNat_le lv
  have := idx.isLt
  rw [reqOp, eventOp, eventLabel_toNat, BitVec.toNat_ofNat]
  simp only [BitVec.toNat_ofNat]
  omega

/-- Two operations with one label and one row: it is enough to look at one of them. -/
theorem TableRow.of_same_label (i j : Instr) (hl : (encode i).label = (encode j).label)
    (hf : TableRow.fixed i = TableRow.fixed j)
    (h : TableRow.holds (encode j).label (TableRow.fixed j) = true) :
    TableRow.holds (encode i).label (TableRow.fixed i) = true := by
  rw [hl, hf, h]

theorem TableRow.tick0 : Statement (.tick0) := fun _ => rfl
theorem TableRow.tick1 : Statement (.tick1) := fun _ => rfl
theorem TableRow.tick2 : Statement (.tick2) := fun _ => rfl
theorem TableRow.tick3 : Statement (.tick3) := fun _ => rfl
theorem TableRow.tick4 : Statement (.tick4) := fun _ => rfl
theorem TableRow.tick5 : Statement (.tick5) := fun _ => rfl
theorem TableRow.tick6 : Statement (.tick6) := fun _ => rfl
theorem TableRow.tick7 : Statement (.tick7) := fun _ => rfl
theorem TableRow.tick15 : Statement (.tick15) := fun _ => rfl
theorem TableRow.req (lv : Bool) (idx : BitVec 8) : Statement (.req lv idx) :=
  fun _ => by simpa [holds, fixed, encode] using reqFields lv idx
theorem TableRow.reset : Statement (.reset) := fun _ => rfl
theorem TableRow.reservedEvent (ek : BitVec 3) (payload : BitVec 16) 
    : Statement (.reservedEvent ek payload) :=
  fun _ => by simpa [holds, fixed, encode, eventOp] using eventFields ek payload
theorem TableRow.rdCgu (sz : Size) (off : BitVec 12) : Statement (.rdCgu sz off) := by
  intro _
  have := busFields false sz 0#4 off
  simp_all [holds, fixed, encode, busOp, Access.isWrite]
theorem TableRow.wrCgu (sz : Size) (off : BitVec 12) (data : Word) 
    : Statement (.wrCgu sz off data) := by
  intro _
  have := busFields true sz 0#4 off
  simp_all [holds, fixed, encode, busOp, Access.isWrite]
theorem TableRow.intcUnsupported (acc : Access) (sz : Size) (off : BitVec 12) 
    : Statement (.intcUnsupported acc sz off) := by
  intro _
  have := busFields acc.isWrite sz 1#4 off
  simp_all [holds, fixed, encode, busOp]
theorem TableRow.tcuUnsupported (acc : Access) (sz : Size) (off : BitVec 12) 
    : Statement (.tcuUnsupported acc sz off) := by
  intro _
  have := busFields acc.isWrite sz 2#4 off
  simp_all [holds, fixed, encode, busOp]
theorem TableRow.rdIntcSource (b : Bank) : Statement (.rdIntcSource b) := by
  intro _
  cases b <;> decide
theorem TableRow.wrIntcSource (b : Bank) (data : Word) : Statement (.wrIntcSource b data) := by
  intro _
  cases b
  · exact of_same_label _ (.wrIntcSource .b0 0#32) rfl rfl (by decide)
  · exact of_same_label _ (.wrIntcSource .b1 0#32) rfl rfl (by decide)
theorem TableRow.rdIntcMask (b : Bank) : Statement (.rdIntcMask b) := by
  intro _
  cases b <;> decide
theorem TableRow.wrIntcMask (b : Bank) (data : Word) : Statement (.wrIntcMask b data) := by
  intro _
  cases b
  · exact of_same_label _ (.wrIntcMask .b0 0#32) rfl rfl (by decide)
  · exact of_same_label _ (.wrIntcMask .b1 0#32) rfl rfl (by decide)
theorem TableRow.rdIntcMaskSet (b : Bank) : Statement (.rdIntcMaskSet b) := by
  intro _
  cases b <;> decide
theorem TableRow.wrIntcMaskSet (b : Bank) (data : Word) : Statement (.wrIntcMaskSet b data) := by
  intro _
  cases b
  · exact of_same_label _ (.wrIntcMaskSet .b0 0#32) rfl rfl (by decide)
  · exact of_same_label _ (.wrIntcMaskSet .b1 0#32) rfl rfl (by decide)
theorem TableRow.rdIntcMaskClr (b : Bank) : Statement (.rdIntcMaskClr b) := by
  intro _
  cases b <;> decide
theorem TableRow.wrIntcMaskClr (b : Bank) (data : Word) : Statement (.wrIntcMaskClr b data) := by
  intro _
  cases b
  · exact of_same_label _ (.wrIntcMaskClr .b0 0#32) rfl rfl (by decide)
  · exact of_same_label _ (.wrIntcMaskClr .b1 0#32) rfl rfl (by decide)
theorem TableRow.rdIntcPending (b : Bank) : Statement (.rdIntcPending b) := by
  intro _
  cases b <;> decide
theorem TableRow.wrIntcPending (b : Bank) (data : Word) : Statement (.wrIntcPending b data) := by
  intro _
  cases b
  · exact of_same_label _ (.wrIntcPending .b0 0#32) rfl rfl (by decide)
  · exact of_same_label _ (.wrIntcPending .b1 0#32) rfl rfl (by decide)
theorem TableRow.intcReserved14 (acc : Access) (b : Bank) : Statement (.intcReserved14 acc b) := by
  intro _
  cases b <;> cases acc
  · decide
  · exact of_same_label _ (.intcReserved14 (.write 0#32) .b0) rfl rfl (by decide)
  · decide
  · exact of_same_label _ (.intcReserved14 (.write 0#32) .b1) rfl rfl (by decide)
theorem TableRow.intcReserved18 (acc : Access) (b : Bank) : Statement (.intcReserved18 acc b) := by
  intro _
  cases b <;> cases acc
  · decide
  · exact of_same_label _ (.intcReserved18 (.write 0#32) .b0) rfl rfl (by decide)
  · decide
  · exact of_same_label _ (.intcReserved18 (.write 0#32) .b1) rfl rfl (by decide)
theorem TableRow.intcReserved1c (acc : Access) (b : Bank) : Statement (.intcReserved1c acc b) := by
  intro _
  cases b <;> cases acc
  · decide
  · exact of_same_label _ (.intcReserved1c (.write 0#32) .b0) rfl rfl (by decide)
  · decide
  · exact of_same_label _ (.intcReserved1c (.write 0#32) .b1) rfl rfl (by decide)
theorem TableRow.intcBankRange (acc : Access) (off : BitVec 12) 
    : Statement (.intcBankRange acc off) := by
  intro h
  have := busFields acc.isWrite .word 1#4 off
  have := aligned off (by simp_all [Instr.wellFormed])
  simp_all [holds, fixed, encode, busOp, Size.code]
theorem TableRow.rdTcuEnable : Statement (.rdTcuEnable) := fun _ => rfl
theorem TableRow.wrTcuEnable (data : Word) : Statement (.wrTcuEnable data) :=
  fun _ => of_same_label _ (.wrTcuEnable 0#32) rfl rfl (by decide)
theorem TableRow.rdTcuEnableSet : Statement (.rdTcuEnableSet) := fun _ => rfl
theorem TableRow.wrTcuEnableSet (data : Word) : Statement (.wrTcuEnableSet data) :=
  fun _ => of_same_label _ (.wrTcuEnableSet 0#32) rfl rfl (by decide)
theorem TableRow.rdTcuEnableClr : Statement (.rdTcuEnableClr) := fun _ => rfl
theorem TableRow.wrTcuEnableClr (data : Word) : Statement (.wrTcuEnableClr data) :=
  fun _ => of_same_label _ (.wrTcuEnableClr 0#32) rfl rfl (by decide)
theorem TableRow.rdTcuStop : Statement (.rdTcuStop) := fun _ => rfl
theorem TableRow.wrTcuStop (data : Word) : Statement (.wrTcuStop data) :=
  fun _ => of_same_label _ (.wrTcuStop 0#32) rfl rfl (by decide)
theorem TableRow.rdTcuFlag : Statement (.rdTcuFlag) := fun _ => rfl
theorem TableRow.wrTcuFlag (data : Word) : Statement (.wrTcuFlag data) :=
  fun _ => of_same_label _ (.wrTcuFlag 0#32) rfl rfl (by decide)
theorem TableRow.rdTcuFlagSet : Statement (.rdTcuFlagSet) := fun _ => rfl
theorem TableRow.wrTcuFlagSet (data : Word) : Statement (.wrTcuFlagSet data) :=
  fun _ => of_same_label _ (.wrTcuFlagSet 0#32) rfl rfl (by decide)
theorem TableRow.rdTcuFlagClr : Statement (.rdTcuFlagClr) := fun _ => rfl
theorem TableRow.wrTcuFlagClr (data : Word) : Statement (.wrTcuFlagClr data) :=
  fun _ => of_same_label _ (.wrTcuFlagClr 0#32) rfl rfl (by decide)
theorem TableRow.rdTcuStopSet : Statement (.rdTcuStopSet) := fun _ => rfl
theorem TableRow.wrTcuStopSet (data : Word) : Statement (.wrTcuStopSet data) :=
  fun _ => of_same_label _ (.wrTcuStopSet 0#32) rfl rfl (by decide)
theorem TableRow.rdTcuMask : Statement (.rdTcuMask) := fun _ => rfl
theorem TableRow.wrTcuMask (data : Word) : Statement (.wrTcuMask data) :=
  fun _ => of_same_label _ (.wrTcuMask 0#32) rfl rfl (by decide)
theorem TableRow.rdTcuMaskSet : Statement (.rdTcuMaskSet) := fun _ => rfl
theorem TableRow.wrTcuMaskSet (data : Word) : Statement (.wrTcuMaskSet data) :=
  fun _ => of_same_label _ (.wrTcuMaskSet 0#32) rfl rfl (by decide)
theorem TableRow.rdTcuMaskClr : Statement (.rdTcuMaskClr) := fun _ => rfl
theorem TableRow.wrTcuMaskClr (data : Word) : Statement (.wrTcuMaskClr data) :=
  fun _ => of_same_label _ (.wrTcuMaskClr 0#32) rfl rfl (by decide)
theorem TableRow.rdTcuStopClr : Statement (.rdTcuStopClr) := fun _ => rfl
theorem TableRow.wrTcuStopClr (data : Word) : Statement (.wrTcuStopClr data) :=
  fun _ => of_same_label _ (.wrTcuStopClr 0#32) rfl rfl (by decide)
theorem TableRow.rdTcuFull0 : Statement (.rdTcuFull0) := fun _ => rfl
theorem TableRow.wrTcuFull0 (data : Word) : Statement (.wrTcuFull0 data) :=
  fun _ => of_same_label _ (.wrTcuFull0 0#32) rfl rfl (by decide)
theorem TableRow.rdTcuHalf0 : Statement (.rdTcuHalf0) := fun _ => rfl
theorem TableRow.wrTcuHalf0 (data : Word) : Statement (.wrTcuHalf0 data) :=
  fun _ => of_same_label _ (.wrTcuHalf0 0#32) rfl rfl (by decide)
theorem TableRow.rdTcuCount0 : Statement (.rdTcuCount0) := fun _ => rfl
theorem TableRow.wrTcuCount0 (data : Word) : Statement (.wrTcuCount0 data) :=
  fun _ => of_same_label _ (.wrTcuCount0 0#32) rfl rfl (by decide)
theorem TableRow.rdTcuCtrl0 : Statement (.rdTcuCtrl0) := fun _ => rfl
theorem TableRow.wrTcuCtrl0 (data : Word) : Statement (.wrTcuCtrl0 data) :=
  fun _ => of_same_label _ (.wrTcuCtrl0 0#32) rfl rfl (by decide)
theorem TableRow.rdTcuFull1 : Statement (.rdTcuFull1) := fun _ => rfl
theorem TableRow.wrTcuFull1 (data : Word) : Statement (.wrTcuFull1 data) :=
  fun _ => of_same_label _ (.wrTcuFull1 0#32) rfl rfl (by decide)
theorem TableRow.rdTcuHalf1 : Statement (.rdTcuHalf1) := fun _ => rfl
theorem TableRow.wrTcuHalf1 (data : Word) : Statement (.wrTcuHalf1 data) :=
  fun _ => of_same_label _ (.wrTcuHalf1 0#32) rfl rfl (by decide)
theorem TableRow.rdTcuCount1 : Statement (.rdTcuCount1) := fun _ => rfl
theorem TableRow.wrTcuCount1 (data : Word) : Statement (.wrTcuCount1 data) :=
  fun _ => of_same_label _ (.wrTcuCount1 0#32) rfl rfl (by decide)
theorem TableRow.rdTcuCtrl1 : Statement (.rdTcuCtrl1) := fun _ => rfl
theorem TableRow.wrTcuCtrl1 (data : Word) : Statement (.wrTcuCtrl1 data) :=
  fun _ => of_same_label _ (.wrTcuCtrl1 0#32) rfl rfl (by decide)
theorem TableRow.rdTcuFull2 : Statement (.rdTcuFull2) := fun _ => rfl
theorem TableRow.wrTcuFull2 (data : Word) : Statement (.wrTcuFull2 data) :=
  fun _ => of_same_label _ (.wrTcuFull2 0#32) rfl rfl (by decide)
theorem TableRow.rdTcuHalf2 : Statement (.rdTcuHalf2) := fun _ => rfl
theorem TableRow.wrTcuHalf2 (data : Word) : Statement (.wrTcuHalf2 data) :=
  fun _ => of_same_label _ (.wrTcuHalf2 0#32) rfl rfl (by decide)
theorem TableRow.rdTcuCount2 : Statement (.rdTcuCount2) := fun _ => rfl
theorem TableRow.wrTcuCount2 (data : Word) : Statement (.wrTcuCount2 data) :=
  fun _ => of_same_label _ (.wrTcuCount2 0#32) rfl rfl (by decide)
theorem TableRow.rdTcuCtrl2 : Statement (.rdTcuCtrl2) := fun _ => rfl
theorem TableRow.wrTcuCtrl2 (data : Word) : Statement (.wrTcuCtrl2 data) :=
  fun _ => of_same_label _ (.wrTcuCtrl2 0#32) rfl rfl (by decide)
theorem TableRow.rdTcuFull3 : Statement (.rdTcuFull3) := fun _ => rfl
theorem TableRow.wrTcuFull3 (data : Word) : Statement (.wrTcuFull3 data) :=
  fun _ => of_same_label _ (.wrTcuFull3 0#32) rfl rfl (by decide)
theorem TableRow.rdTcuHalf3 : Statement (.rdTcuHalf3) := fun _ => rfl
theorem TableRow.wrTcuHalf3 (data : Word) : Statement (.wrTcuHalf3 data) :=
  fun _ => of_same_label _ (.wrTcuHalf3 0#32) rfl rfl (by decide)
theorem TableRow.rdTcuCount3 : Statement (.rdTcuCount3) := fun _ => rfl
theorem TableRow.wrTcuCount3 (data : Word) : Statement (.wrTcuCount3 data) :=
  fun _ => of_same_label _ (.wrTcuCount3 0#32) rfl rfl (by decide)
theorem TableRow.rdTcuCtrl3 : Statement (.rdTcuCtrl3) := fun _ => rfl
theorem TableRow.wrTcuCtrl3 (data : Word) : Statement (.wrTcuCtrl3 data) :=
  fun _ => of_same_label _ (.wrTcuCtrl3 0#32) rfl rfl (by decide)
theorem TableRow.rdTcuFull4 : Statement (.rdTcuFull4) := fun _ => rfl
theorem TableRow.wrTcuFull4 (data : Word) : Statement (.wrTcuFull4 data) :=
  fun _ => of_same_label _ (.wrTcuFull4 0#32) rfl rfl (by decide)
theorem TableRow.rdTcuHalf4 : Statement (.rdTcuHalf4) := fun _ => rfl
theorem TableRow.wrTcuHalf4 (data : Word) : Statement (.wrTcuHalf4 data) :=
  fun _ => of_same_label _ (.wrTcuHalf4 0#32) rfl rfl (by decide)
theorem TableRow.rdTcuCount4 : Statement (.rdTcuCount4) := fun _ => rfl
theorem TableRow.wrTcuCount4 (data : Word) : Statement (.wrTcuCount4 data) :=
  fun _ => of_same_label _ (.wrTcuCount4 0#32) rfl rfl (by decide)
theorem TableRow.rdTcuCtrl4 : Statement (.rdTcuCtrl4) := fun _ => rfl
theorem TableRow.wrTcuCtrl4 (data : Word) : Statement (.wrTcuCtrl4 data) :=
  fun _ => of_same_label _ (.wrTcuCtrl4 0#32) rfl rfl (by decide)
theorem TableRow.rdTcuFull5 : Statement (.rdTcuFull5) := fun _ => rfl
theorem TableRow.wrTcuFull5 (data : Word) : Statement (.wrTcuFull5 data) :=
  fun _ => of_same_label _ (.wrTcuFull5 0#32) rfl rfl (by decide)
theorem TableRow.rdTcuHalf5 : Statement (.rdTcuHalf5) := fun _ => rfl
theorem TableRow.wrTcuHalf5 (data : Word) : Statement (.wrTcuHalf5 data) :=
  fun _ => of_same_label _ (.wrTcuHalf5 0#32) rfl rfl (by decide)
theorem TableRow.rdTcuCount5 : Statement (.rdTcuCount5) := fun _ => rfl
theorem TableRow.wrTcuCount5 (data : Word) : Statement (.wrTcuCount5 data) :=
  fun _ => of_same_label _ (.wrTcuCount5 0#32) rfl rfl (by decide)
theorem TableRow.rdTcuCtrl5 : Statement (.rdTcuCtrl5) := fun _ => rfl
theorem TableRow.wrTcuCtrl5 (data : Word) : Statement (.wrTcuCtrl5 data) :=
  fun _ => of_same_label _ (.wrTcuCtrl5 0#32) rfl rfl (by decide)
theorem TableRow.rdTcuFull6 : Statement (.rdTcuFull6) := fun _ => rfl
theorem TableRow.wrTcuFull6 (data : Word) : Statement (.wrTcuFull6 data) :=
  fun _ => of_same_label _ (.wrTcuFull6 0#32) rfl rfl (by decide)
theorem TableRow.rdTcuHalf6 : Statement (.rdTcuHalf6) := fun _ => rfl
theorem TableRow.wrTcuHalf6 (data : Word) : Statement (.wrTcuHalf6 data) :=
  fun _ => of_same_label _ (.wrTcuHalf6 0#32) rfl rfl (by decide)
theorem TableRow.rdTcuCount6 : Statement (.rdTcuCount6) := fun _ => rfl
theorem TableRow.wrTcuCount6 (data : Word) : Statement (.wrTcuCount6 data) :=
  fun _ => of_same_label _ (.wrTcuCount6 0#32) rfl rfl (by decide)
theorem TableRow.rdTcuCtrl6 : Statement (.rdTcuCtrl6) := fun _ => rfl
theorem TableRow.wrTcuCtrl6 (data : Word) : Statement (.wrTcuCtrl6 data) :=
  fun _ => of_same_label _ (.wrTcuCtrl6 0#32) rfl rfl (by decide)
theorem TableRow.rdTcuFull7 : Statement (.rdTcuFull7) := fun _ => rfl
theorem TableRow.wrTcuFull7 (data : Word) : Statement (.wrTcuFull7 data) :=
  fun _ => of_same_label _ (.wrTcuFull7 0#32) rfl rfl (by decide)
theorem TableRow.rdTcuHalf7 : Statement (.rdTcuHalf7) := fun _ => rfl
theorem TableRow.wrTcuHalf7 (data : Word) : Statement (.wrTcuHalf7 data) :=
  fun _ => of_same_label _ (.wrTcuHalf7 0#32) rfl rfl (by decide)
theorem TableRow.rdTcuCount7 : Statement (.rdTcuCount7) := fun _ => rfl
theorem TableRow.wrTcuCount7 (data : Word) : Statement (.wrTcuCount7 data) :=
  fun _ => of_same_label _ (.wrTcuCount7 0#32) rfl rfl (by decide)
theorem TableRow.rdTcuCtrl7 : Statement (.rdTcuCtrl7) := fun _ => rfl
theorem TableRow.wrTcuCtrl7 (data : Word) : Statement (.wrTcuCtrl7 data) :=
  fun _ => of_same_label _ (.wrTcuCtrl7 0#32) rfl rfl (by decide)
theorem TableRow.rdTcuFull15 : Statement (.rdTcuFull15) := fun _ => rfl
theorem TableRow.wrTcuFull15 (data : Word) : Statement (.wrTcuFull15 data) :=
  fun _ => of_same_label _ (.wrTcuFull15 0#32) rfl rfl (by decide)
theorem TableRow.rdTcuHalf15 : Statement (.rdTcuHalf15) := fun _ => rfl
theorem TableRow.wrTcuHalf15 (data : Word) : Statement (.wrTcuHalf15 data) :=
  fun _ => of_same_label _ (.wrTcuHalf15 0#32) rfl rfl (by decide)
theorem TableRow.rdTcuCount15 : Statement (.rdTcuCount15) := fun _ => rfl
theorem TableRow.wrTcuCount15 (data : Word) : Statement (.wrTcuCount15 data) :=
  fun _ => of_same_label _ (.wrTcuCount15 0#32) rfl rfl (by decide)
theorem TableRow.rdTcuCtrl15 : Statement (.rdTcuCtrl15) := fun _ => rfl
theorem TableRow.wrTcuCtrl15 (data : Word) : Statement (.wrTcuCtrl15 data) :=
  fun _ => of_same_label _ (.wrTcuCtrl15 0#32) rfl rfl (by decide)
theorem TableRow.tcuReserved (acc : Access) (off : BitVec 12) 
    : Statement (.tcuReserved acc off) := by
  intro h
  have := busFields acc.isWrite .word 2#4 off
  have := aligned off (by simp_all [Instr.wellFormed])
  simp_all [holds, fixed, encode, busOp, tcuOp, Size.code]
theorem TableRow.notThisBlock (acc : Access) (sz : Size) (unit : BitVec 4) (off : BitVec 12) 
    : Statement (.notThisBlock acc sz unit off) := by
  intro _
  have := busFields acc.isWrite sz unit off
  simp_all [holds, fixed, encode, busOp]

end Sys2Proof.Laws
end

