-- ==== Sys2Proof/Tests/Slice0.lean ====
section
/-! SUPPORT. Tests: ill-formed operations refused, words written out from the spec's encodings, one step each
on small states with values from spec/95_test_vectors.md, and states and operands that meet the hypotheses of
the statements. -/
namespace Sys2Proof.Tests
open Sys2Proof.Machine Sys2Proof.Safety

/-! Ill-formed operations are refused by WellFormed, one for each check; the boundary value beside it is not -/

theorem test_wf_refuses_a_tick_of_channel_0_as_reserved : (Instr.reservedEvent 0#3 0#16).wellFormed = false := by decide
theorem test_wf_refuses_tick_15_as_reserved : (Instr.reservedEvent 0#3 15#16).wellFormed = false := by decide
theorem test_wf_accepts_tick_8_as_reserved : (Instr.reservedEvent 0#3 8#16).wellFormed = true := by decide
theorem test_wf_refuses_a_request_as_reserved : (Instr.reservedEvent 1#3 0x1ff#16).wellFormed = false := by decide
theorem test_wf_refuses_reset_as_reserved : (Instr.reservedEvent 2#3 0#16).wellFormed = false := by decide
theorem test_wf_refuses_cgu_read_past_its_window : (Instr.rdCgu .word 0x100#12).wellFormed = false := by decide
theorem test_wf_accepts_cgu_read_at_its_last_byte : (Instr.rdCgu .byte 0x0ff#12).wellFormed = true := by decide
theorem test_wf_refuses_cgu_write_past_its_window : (Instr.wrCgu .word 0x100#12 0#32).wellFormed = false := by decide
theorem test_wf_refuses_aligned_word_as_intc_unsupported :
    (Instr.intcUnsupported .read .word 0x004#12).wellFormed = false := by decide
theorem test_wf_refuses_aligned_word_as_tcu_unsupported :
    (Instr.tcuUnsupported .read .word 0x098#12).wellFormed = false := by decide
theorem test_wf_refuses_tcu_unsupported_past_the_window :
    (Instr.tcuUnsupported .read .byte 0x200#12).wellFormed = false := by decide
theorem test_wf_refuses_bank_1_as_out_of_range : (Instr.intcBankRange .read 0x03c#12).wellFormed = false := by decide
theorem test_wf_accepts_bank_2_as_out_of_range : (Instr.intcBankRange .read 0x040#12).wellFormed = true := by decide
theorem test_wf_refuses_misaligned_bank_range : (Instr.intcBankRange .read 0x042#12).wellFormed = false := by decide
theorem test_wf_refuses_a_register_as_tcu_reserved : (Instr.tcuReserved .read 0x130#12).wellFormed = false := by decide
theorem test_wf_accepts_the_gap_below_it_as_tcu_reserved : (Instr.tcuReserved .read 0x12c#12).wellFormed = true := by decide
theorem test_wf_refuses_misaligned_tcu_reserved : (Instr.tcuReserved .read 0x0c2#12).wellFormed = false := by decide
theorem test_wf_refuses_a_window_as_not_this_block :
    (Instr.notThisBlock .read .word 2#4 0x1ff#12).wellFormed = false := by decide

/-! Decoding of words written out from R71 to R74 and the Encoding lines of the rules, with the data word 5 -/

/-- The operation a label and the data word 5 decode to. -/
def dec (l : Nat) : Instr := decode ⟨BitVec.ofNat 20 l, 5#32⟩

/-- R72: `0x8_0000 | C`, `0x9_0000 | (LV << 8) | IDX`, `0xA_0000`. -/
theorem test_decode_events :
    dec 0x80000 = .tick0 ∧
    dec 0x80001 = .tick1 ∧
    dec 0x80002 = .tick2 ∧
    dec 0x80003 = .tick3 ∧
    dec 0x80004 = .tick4 ∧
    dec 0x80005 = .tick5 ∧
    dec 0x80006 = .tick6 ∧
    dec 0x80007 = .tick7 ∧
    dec 0x8000f = .tick15 ∧
    dec 0x90103 = .req true 3#8 ∧
    dec 0x900ff = .req false 255#8 ∧
    dec 0xa0000 = .reset := by
  decide

/-- V-B-8 of 95_test_vectors.md (R78 a). -/
theorem test_decode_reserved_events :
    dec 0x80008 = .reservedEvent 0#3 8#16 ∧
    dec 0x80010 = .reservedEvent 0#3 0x10#16 ∧
    dec 0x90200 = .reservedEvent 1#3 0x200#16 ∧
    dec 0xa0001 = .reservedEvent 2#3 1#16 ∧
    dec 0xb0000 = .reservedEvent 3#3 0#16 ∧
    dec 0xfffff = .reservedEvent 7#3 0xffff#16 := by
  decide

/-- V-B-6, V-B-7 (R52, R64). -/
theorem test_decode_cgu_and_outside :
    dec 0x20000 = .rdCgu .word 0#12 ∧
    dec 0x000ff = .rdCgu .byte 0xff#12 ∧
    dec 0x600fc = .wrCgu .word 0x0fc#12 5#32 ∧
    dec 0x20100 = .notThisBlock .read .word 0#4 0x100#12 ∧
    dec 0x23000 = .notThisBlock .read .word 3#4 0#12 ∧
    dec 0x62200 = .notThisBlock (.write 5#32) .word 2#4 0x200#12 := by
  decide

/-- V-B-1 to V-B-5 (R55); the size test comes before the bank test (R206). -/
theorem test_decode_unsupported :
    dec 0x02098 = .tcuUnsupported .read .byte 0x098#12 ∧
    dec 0x12098 = .tcuUnsupported .read .half 0x098#12 ∧
    dec 0x32098 = .tcuUnsupported .read .dword 0x098#12 ∧
    dec 0x42010 = .tcuUnsupported (.write 5#32) .byte 0x010#12 ∧
    dec 0x22099 = .tcuUnsupported .read .word 0x099#12 ∧
    dec 0x61006 = .intcUnsupported (.write 5#32) .word 0x006#12 ∧
    dec 0x31040 = .intcUnsupported .read .dword 0x040#12 := by
  decide

/-- R102 to R110: `0x2_1000 | (b << 5) | r` and `0x6_1000 | (b << 5) | r`. -/
theorem test_decode_intc_registers :
    dec 0x21000 = .rdIntcSource .b0 ∧
    dec 0x61000 = .wrIntcSource .b0 5#32 ∧
    dec 0x21004 = .rdIntcMask .b0 ∧
    dec 0x61004 = .wrIntcMask .b0 5#32 ∧
    dec 0x21008 = .rdIntcMaskSet .b0 ∧
    dec 0x61008 = .wrIntcMaskSet .b0 5#32 ∧
    dec 0x2100c = .rdIntcMaskClr .b0 ∧
    dec 0x6100c = .wrIntcMaskClr .b0 5#32 ∧
    dec 0x21010 = .rdIntcPending .b0 ∧
    dec 0x61010 = .wrIntcPending .b0 5#32 ∧
    dec 0x21020 = .rdIntcSource .b1 ∧
    dec 0x61020 = .wrIntcSource .b1 5#32 ∧
    dec 0x21024 = .rdIntcMask .b1 ∧
    dec 0x61024 = .wrIntcMask .b1 5#32 ∧
    dec 0x21028 = .rdIntcMaskSet .b1 ∧
    dec 0x61028 = .wrIntcMaskSet .b1 5#32 ∧
    dec 0x2102c = .rdIntcMaskClr .b1 ∧
    dec 0x6102c = .wrIntcMaskClr .b1 5#32 ∧
    dec 0x21030 = .rdIntcPending .b1 ∧
    dec 0x61030 = .wrIntcPending .b1 5#32 := by
  decide

/-- R111, R112 and V-INTC-11, V-INTC-12. -/
theorem test_decode_intc_catch_alls :
    dec 0x21014 = .intcReserved14 .read .b0 ∧
    dec 0x61014 = .intcReserved14 (.write 5#32) .b0 ∧
    dec 0x21018 = .intcReserved18 .read .b0 ∧
    dec 0x61018 = .intcReserved18 (.write 5#32) .b0 ∧
    dec 0x2101c = .intcReserved1c .read .b0 ∧
    dec 0x6101c = .intcReserved1c (.write 5#32) .b0 ∧
    dec 0x21034 = .intcReserved14 .read .b1 ∧
    dec 0x61034 = .intcReserved14 (.write 5#32) .b1 ∧
    dec 0x21038 = .intcReserved18 .read .b1 ∧
    dec 0x61038 = .intcReserved18 (.write 5#32) .b1 ∧
    dec 0x2103c = .intcReserved1c .read .b1 ∧
    dec 0x6103c = .intcReserved1c (.write 5#32) .b1 ∧
    dec 0x21040 = .intcBankRange .read 0x040#12 ∧
    dec 0x6104c = .intcBankRange (.write 5#32) 0x04c#12 ∧
    dec 0x21ffc = .intcBankRange .read 0xffc#12 := by
  decide

/-- R151 to R167: `0x2_2000 | off` and `0x6_2000 | off`. -/
theorem test_decode_tcu_globals :
    dec 0x22010 = .rdTcuEnable ∧
    dec 0x62010 = .wrTcuEnable 5#32 ∧
    dec 0x22014 = .rdTcuEnableSet ∧
    dec 0x62014 = .wrTcuEnableSet 5#32 ∧
    dec 0x22018 = .rdTcuEnableClr ∧
    dec 0x62018 = .wrTcuEnableClr 5#32 ∧
    dec 0x2201c = .rdTcuStop ∧
    dec 0x6201c = .wrTcuStop 5#32 ∧
    dec 0x22020 = .rdTcuFlag ∧
    dec 0x62020 = .wrTcuFlag 5#32 ∧
    dec 0x22024 = .rdTcuFlagSet ∧
    dec 0x62024 = .wrTcuFlagSet 5#32 ∧
    dec 0x22028 = .rdTcuFlagClr ∧
    dec 0x62028 = .wrTcuFlagClr 5#32 ∧
    dec 0x2202c = .rdTcuStopSet ∧
    dec 0x6202c = .wrTcuStopSet 5#32 ∧
    dec 0x22030 = .rdTcuMask ∧
    dec 0x62030 = .wrTcuMask 5#32 ∧
    dec 0x22034 = .rdTcuMaskSet ∧
    dec 0x62034 = .wrTcuMaskSet 5#32 ∧
    dec 0x22038 = .rdTcuMaskClr ∧
    dec 0x62038 = .wrTcuMaskClr 5#32 ∧
    dec 0x2203c = .rdTcuStopClr ∧
    dec 0x6203c = .wrTcuStopClr 5#32 := by
  decide

/-- R130 to R137: `0x2_2000 | (B(c) + 0x0)` and `0x6_2000 | (B(c) + 0x0)`, `B(c) = 0x40 + 0x10*c`. -/
theorem test_decode_tcu_full :
    dec 0x22040 = .rdTcuFull0 ∧
    dec 0x62040 = .wrTcuFull0 5#32 ∧
    dec 0x22050 = .rdTcuFull1 ∧
    dec 0x62050 = .wrTcuFull1 5#32 ∧
    dec 0x22060 = .rdTcuFull2 ∧
    dec 0x62060 = .wrTcuFull2 5#32 ∧
    dec 0x22070 = .rdTcuFull3 ∧
    dec 0x62070 = .wrTcuFull3 5#32 ∧
    dec 0x22080 = .rdTcuFull4 ∧
    dec 0x62080 = .wrTcuFull4 5#32 ∧
    dec 0x22090 = .rdTcuFull5 ∧
    dec 0x62090 = .wrTcuFull5 5#32 ∧
    dec 0x220a0 = .rdTcuFull6 ∧
    dec 0x620a0 = .wrTcuFull6 5#32 ∧
    dec 0x220b0 = .rdTcuFull7 ∧
    dec 0x620b0 = .wrTcuFull7 5#32 ∧
    dec 0x22130 = .rdTcuFull15 ∧
    dec 0x62130 = .wrTcuFull15 5#32 := by
  decide

/-- R130 to R137: `0x2_2000 | (B(c) + 0x4)` and `0x6_2000 | (B(c) + 0x4)`, `B(c) = 0x40 + 0x10*c`. -/
theorem test_decode_tcu_half :
    dec 0x22044 = .rdTcuHalf0 ∧
    dec 0x62044 = .wrTcuHalf0 5#32 ∧
    dec 0x22054 = .rdTcuHalf1 ∧
    dec 0x62054 = .wrTcuHalf1 5#32 ∧
    dec 0x22064 = .rdTcuHalf2 ∧
    dec 0x62064 = .wrTcuHalf2 5#32 ∧
    dec 0x22074 = .rdTcuHalf3 ∧
    dec 0x62074 = .wrTcuHalf3 5#32 ∧
    dec 0x22084 = .rdTcuHalf4 ∧
    dec 0x62084 = .wrTcuHalf4 5#32 ∧
    dec 0x22094 = .rdTcuHalf5 ∧
    dec 0x62094 = .wrTcuHalf5 5#32 ∧
    dec 0x220a4 = .rdTcuHalf6 ∧
    dec 0x620a4 = .wrTcuHalf6 5#32 ∧
    dec 0x220b4 = .rdTcuHalf7 ∧
    dec 0x620b4 = .wrTcuHalf7 5#32 ∧
    dec 0x22134 = .rdTcuHalf15 ∧
    dec 0x62134 = .wrTcuHalf15 5#32 := by
  decide

/-- R130 to R137: `0x2_2000 | (B(c) + 0x8)` and `0x6_2000 | (B(c) + 0x8)`, `B(c) = 0x40 + 0x10*c`. -/
theorem test_decode_tcu_count :
    dec 0x22048 = .rdTcuCount0 ∧
    dec 0x62048 = .wrTcuCount0 5#32 ∧
    dec 0x22058 = .rdTcuCount1 ∧
    dec 0x62058 = .wrTcuCount1 5#32 ∧
    dec 0x22068 = .rdTcuCount2 ∧
    dec 0x62068 = .wrTcuCount2 5#32 ∧
    dec 0x22078 = .rdTcuCount3 ∧
    dec 0x62078 = .wrTcuCount3 5#32 ∧
    dec 0x22088 = .rdTcuCount4 ∧
    dec 0x62088 = .wrTcuCount4 5#32 ∧
    dec 0x22098 = .rdTcuCount5 ∧
    dec 0x62098 = .wrTcuCount5 5#32 ∧
    dec 0x220a8 = .rdTcuCount6 ∧
    dec 0x620a8 = .wrTcuCount6 5#32 ∧
    dec 0x220b8 = .rdTcuCount7 ∧
    dec 0x620b8 = .wrTcuCount7 5#32 ∧
    dec 0x22138 = .rdTcuCount15 ∧
    dec 0x62138 = .wrTcuCount15 5#32 := by
  decide

/-- R130 to R137: `0x2_2000 | (B(c) + 0xc)` and `0x6_2000 | (B(c) + 0xc)`, `B(c) = 0x40 + 0x10*c`. -/
theorem test_decode_tcu_ctrl :
    dec 0x2204c = .rdTcuCtrl0 ∧
    dec 0x6204c = .wrTcuCtrl0 5#32 ∧
    dec 0x2205c = .rdTcuCtrl1 ∧
    dec 0x6205c = .wrTcuCtrl1 5#32 ∧
    dec 0x2206c = .rdTcuCtrl2 ∧
    dec 0x6206c = .wrTcuCtrl2 5#32 ∧
    dec 0x2207c = .rdTcuCtrl3 ∧
    dec 0x6207c = .wrTcuCtrl3 5#32 ∧
    dec 0x2208c = .rdTcuCtrl4 ∧
    dec 0x6208c = .wrTcuCtrl4 5#32 ∧
    dec 0x2209c = .rdTcuCtrl5 ∧
    dec 0x6209c = .wrTcuCtrl5 5#32 ∧
    dec 0x220ac = .rdTcuCtrl6 ∧
    dec 0x620ac = .wrTcuCtrl6 5#32 ∧
    dec 0x220bc = .rdTcuCtrl7 ∧
    dec 0x620bc = .wrTcuCtrl7 5#32 ∧
    dec 0x2213c = .rdTcuCtrl15 ∧
    dec 0x6213c = .wrTcuCtrl15 5#32 := by
  decide

/-- R138, V-CH-19, V-CH-20. -/
theorem test_decode_tcu_reserved :
    dec 0x22000 = .tcuReserved .read 0x000#12 ∧
    dec 0x6200c = .tcuReserved (.write 5#32) 0x00c#12 ∧
    dec 0x220c8 = .tcuReserved .read 0x0c8#12 ∧
    dec 0x2212c = .tcuReserved .read 0x12c#12 ∧
    dec 0x62140 = .tcuReserved (.write 5#32) 0x140#12 ∧
    dec 0x621fc = .tcuReserved (.write 5#32) 0x1fc#12 := by
  decide

/-- V-B-9, V-B-10: physical addresses to labels. -/
theorem test_physical_addresses :
    accessOp (.write 7#32) .word 0x10002098#32 = some ⟨0x62098#20, 7#32⟩ ∧
    accessOp .read .word 0x10001030#32 = some ⟨0x21030#20, 0#32⟩ ∧
    accessOp .read .word 0x10003000#32 = none ∧ accessOp .read .word 0x0fffffff#32 = none ∧
    accessOp .read .word 0x20001000#32 = none := by
  decide

/-- V-B-7 (R71): the addresses past the CGU's and the TCU's window have labels, which decode refuses. -/
theorem test_addresses_between_the_windows :
    accessOp .read .word 0x10000100#32 = some ⟨0x20100#20, 0#32⟩ ∧
    dec 0x20100 = .notThisBlock .read .word 0#4 0x100#12 ∧
    accessOp .read .word 0x10002200#32 = some ⟨0x22200#20, 0#32⟩ ∧
    dec 0x22200 = .notThisBlock .read .word 2#4 0x200#12 := by
  decide

/-- The table's word carries the label in bits 19:0 and the data word above it (log entry 3). -/
theorem test_table_word :
    decodeTableWord 20 0x80005 = some .tick5 ∧ decodeTableWord 24 0x62098 = some (.wrTcuCount5 0#32) ∧
    decodeTableWord 52 0x762098 = some (.wrTcuCount5 7#32) := by
  decide

/-! One step each, with the values of 95_test_vectors.md -/

/-- Parameters with the increment `k` and the sources of the vectors, (10, 11, 12). -/
def params (k : Word) : Params := ⟨k, 10, 11, 12⟩

/-- A channel of the start state S0, with its count. -/
def ready (count : Word) : Channel :=
  { count := count, full := 0x100#32, half := 0x80#32, ctrl := 0#32, tickArmed := true }

/-- The start state S0 of 95_test_vectors.md. -/
def s0 : State :=
  { State.reset with
    ch := ⟨ready 0#32, ready 0#32, ready 0#32, ready 0#32, ready 0#32, ready 0#32, ready 0#32, ready 0#32, ready 0#32⟩ }

/-- The next state of an outcome. -/
def nextOf : Host.Outcome State Fault Refusal → Option State
  | .next t => some t
  | _ => none

/-- What `f` shows of the state after an operation, none where it stops. -/
def after {α : Type} (i : Instr) (s : State) (f : State → α) : Option α := (nextOf (exec i s)).map f

/-- The refusal of an outcome. -/
def refusalOf : Host.Outcome State Fault Refusal → Option Refusal
  | .refused r => some r
  | _ => none

/-- S0 with the count of channel 3 and the enable word given. -/
def counting (enable count : Word) : State := ({ s0 with enable := enable }).setChan .c3 (ready count)

/-- V-T-1. -/
theorem test_tick_disabled_sets_flags :
    after .tick0 State.reset (fun t => ((t.chan .c0).count, t.flag, t.line)) =
      some (0#32, 0x00010001#32, ⟨false, false, false⟩) := by decide

/-- V-T-2. -/
theorem test_tick_half :
    (let t := tick (params 1#32) .c3 (counting 8#32 0x7f#32); ((t.chan .c3).count, t.flag)) = (0x80#32, 0x00080000#32) := by decide

/-- V-T-3. -/
theorem test_tick_full :
    (let t := tick (params 1#32) .c3 (counting 8#32 0xff#32); ((t.chan .c3).count, t.flag)) = (0#32, 0x00080008#32) := by decide

/-- V-T-4, V-T-9: no other channel's bit gates it. -/
theorem test_tick_disabled_does_not_count :
    (let t := tick (params 1#32) .c3 (counting 0x8000#32 0x50#32); ((t.chan .c3).count, t.flag)) = (0x50#32, 0#32) := by decide

/-- V-T-5: stop is all ones in S0. -/
theorem test_tick_ignores_stop :
    (let t := tick (params 1#32) .c3 (counting 8#32 0x50#32); ((t.chan .c3).count, t.flag)) = (0x51#32, 0#32) := by decide

/-- V-T-6. -/
theorem test_tick_wrap_skips_the_threshold :
    (let s := ({ s0 with enable := 0x20#32 }).setChan .c5 ⟨0xfffe#32, 0xffff#32, 0xffff#32, 0#32, true⟩;
      let t := tick (params 0xffffffff#32) .c5 s; ((t.chan .c5).count, t.flag)) = (0xfffd#32, 0#32) := by decide

/-- V-T-7. -/
theorem test_tick_drops_the_excess :
    (let t := tick (params 0x20#32) .c3 (counting 8#32 0xf0#32); ((t.chan .c3).count, t.flag)) = (0#32, 0x00080008#32) := by decide

/-- V-T-8: no half flag. -/
theorem test_tick_of_the_os_timer :
    (let t := tick (params 1#32) .ost (({ s0 with enable := 0x8000#32 }).setChan .ost (ready 0xff#32));
      ((t.chan .ost).count, t.flag)) = (0#32, 0x00008000#32) := by decide

/-- Step 9 of P2 with the half flag acknowledged: line 1, source bit 11, bank 0's output. -/
theorem test_tick_raises_line_1_and_its_input :
    (let s : State := { s0 with enable := 0x20#32, mask := 0xffdfffdf#32,
                                  intc := ⟨⟨0#32, 0xfffff7ff#32, 0#32, false⟩, IntcBank.reset⟩ };
      let t := tick (params 1#32) .c5 (s.setChan .c5 (ready 0xff#32)); (t.line, t.intc)) =
      (⟨false, true, false⟩, ⟨⟨0x800#32, 0xfffff7ff#32, 0x800#32, true⟩, IntcBank.reset⟩) := by decide

/-- V-CH-1. -/
theorem test_full_keeps_16_bits :
    after (.wrTcuFull0 0xabcd1234#32) State.reset (fun t => (t.chan .c0, t.flag)) =
      some (⟨0#32, 0x1234#32, 0#32, 0#32, true⟩, 0x00010000#32) := by decide

/-- V-CH-3, V-CH-7: the comparison is unsigned. -/
theorem test_count_write_overflows :
    after (.wrTcuCount3 0xffffffff#32) s0 (fun t => ((t.chan .c3).count, t.flag)) = some (0#32, 0x00080008#32) := by decide

/-- V-CH-5. -/
theorem test_count_write_half_only :
    after (.wrTcuCount3 0x80#32) s0 (fun t => ((t.chan .c3).count, t.flag)) = some (0x80#32, 0x00080000#32) := by decide

/-- V-CH-8, V-CH-9: never bit 31. -/
theorem test_count_write_os_timer :
    after (.wrTcuCount15 0x100#32) s0 (fun t => ((t.chan .ost).count, t.flag)) = some (0#32, 0x00008000#32) ∧
    after (.wrTcuCount15 0x80#32) s0 (fun t => ((t.chan .ost).count, t.flag)) = some (0x80#32, 0#32) := by decide

/-- V-CH-10: the half test sees the old count. -/
theorem test_full_write_below_the_count :
    after (.wrTcuFull3 0x40#32) (counting 0#32 0x50#32) (fun t => (t.chan .c3, t.flag)) =
      some (⟨0#32, 0x40#32, 0x80#32, 0#32, true⟩, 0x00000008#32) := by decide

/-- V-CH-11. -/
theorem test_half_write_at_the_count :
    after (.wrTcuHalf3 0x50#32) (counting 0#32 0x50#32) (fun t => (t.chan .c3, t.flag)) =
      some (⟨0x50#32, 0x100#32, 0x50#32, 0#32, true⟩, 0x00080000#32) := by decide

/-- V-CH-15. -/
theorem test_ctrl_write_recomputes :
    after (.wrTcuCtrl0 1#32) State.reset (fun t => ((t.chan .c0).ctrl, t.flag, t.line)) =
      some (1#32, 0x00010001#32, ⟨false, false, false⟩) := by decide

/-- V-CH-17. -/
theorem test_full_reads_zero :
    after .rdTcuFull3 s0 (fun t => (t.rdata, t.diags)) = some (.word 0#32, [.unhandledRead .c3 .full]) := by decide

/-- V-CH-18. -/
theorem test_count_reads :
    after .rdTcuCount3 (counting 0#32 0x50#32) (·.rdata) = some (.word 0x50#32) := by decide

/-- V-CH-19: no recompute runs. -/
theorem test_reserved_offset :
    after (.tcuReserved (.write 5#32) 0x0c8#12) State.reset (fun t => (t.flag, t.diags)) =
      some (0#32, [.unknownOffset .tcu 0x0c8#12]) := by decide

/-- V-G-1. -/
theorem test_enable_write_flags_every_channel :
    after (.wrTcuEnable 0x20#32) State.reset (fun t => (t.enable, t.flag, t.line)) =
      some (0x20#32, 0x00ff80ff#32, ⟨false, false, false⟩) := by decide

/-- V-G-2, V-G-3. -/
theorem test_enable_set_and_clear :
    after (.wrTcuEnableSet 0x8021#32) s0 (fun t => (t.enable, t.flag)) = some (0x8021#32, 0#32) ∧
    after (.wrTcuEnableClr 0x20#32) { s0 with enable := 0x8021#32 } (·.enable) = some 0x8001#32 := by decide

/-- V-G-4, V-G-5. -/
theorem test_stop_set_and_clear :
    after (.wrTcuStopClr 0x8020#32) State.reset (fun t => (t.stop, t.flag)) = some (0xffff7fdf#32, 0x00ff80ff#32) ∧
    after (.wrTcuStopSet 0x20#32) { s0 with stop := 0xffff7fdf#32 } (·.stop) = some 0xffff7fff#32 := by decide

/-- V-G-7: no line reads it, though it is unmasked here. -/
theorem test_flag_write_of_bit_31 :
    after (.wrTcuFlag 0x80000000#32) { s0 with mask := 0#32 } (fun t => (t.flag, t.line)) =
      some (0x80000000#32, ⟨false, false, false⟩) := by decide

/-- V-G-9: source bit 10. -/
theorem test_flag_set_raises_line_0 :
    (let t := globalWrite (params 1#32) .flag .set 0x8000#32 { s0 with mask := 0xffff7fff#32 };
      (t.flag, t.line, t.intc.b0.source, t.intc.b0.irqOut)) = (0x8000#32, ⟨true, false, false⟩, 0x400#32, false) := by decide

/-- V-G-11. -/
theorem test_flag_clear_cannot_clear_a_holding_condition :
    after (.wrTcuFlagClr 0xffffffff#32) State.reset (·.flag) = some 0x00ff80ff#32 := by decide

/-- V-G-10. -/
theorem test_flag_clear_lowers_line_0 :
    (let t := globalWrite (params 1#32) .flag .clr 0x8000#32
        { s0 with mask := 0xffff7fff#32, flag := 0x8000#32, line := ⟨true, false, false⟩,
                  intc := { s0.intc with b0 := ⟨0x400#32, 0xffffffff#32, 0#32, false⟩ } };
      (t.flag, t.line, t.intc.b0.source)) = (0#32, ⟨false, false, false⟩, 0#32) := by decide

/-- V-G-13, V-G-15. -/
theorem test_mask_set_and_clear :
    after (.wrTcuMaskClr 0x00df00df#32) s0 (·.mask) = some 0xff20ff20#32 ∧
    after (.wrTcuMaskSet 0x00010000#32) { s0 with mask := 0xff20ff20#32, flag := 0x00010000#32 }
      (fun t => (t.mask, t.line.l2)) = some (0xff21ff20#32, false) := by decide

/-- The line table of 95_test_vectors.md: OS timer, channel 5, channel 7's half, every settable bit. -/
theorem test_line_table :
    after (.wrTcuFlag 0x00008000#32) { s0 with mask := 0#32 } (·.line) = some ⟨true, false, false⟩ ∧
    after (.wrTcuFlag 0x00200000#32) { s0 with mask := 0#32 } (·.line) = some ⟨false, true, false⟩ ∧
    after (.wrTcuFlag 0x00800000#32) { s0 with mask := 0#32 } (·.line) = some ⟨false, false, true⟩ ∧
    after (.wrTcuFlag 0x00ff80ff#32) { s0 with mask := 0#32 } (·.line) = some ⟨true, true, true⟩ := by decide

/-- V-G-17. -/
theorem test_global_reads :
    after .rdTcuEnable State.reset (·.rdata) = some (.word 0#32) ∧
    after .rdTcuStop State.reset (·.rdata) = some (.word 0xffffffff#32) ∧
    after .rdTcuFlag State.reset (·.rdata) = some (.word 0#32) ∧
    after .rdTcuMask State.reset (·.rdata) = some (.word 0xffffffff#32) := by decide

/-- V-G-18. -/
theorem test_write_only_read :
    after .rdTcuStopSet s0 (fun t => (t.rdata, t.diags, t.stop)) =
      some (.word 0#32, [.woRead .tcu 0x02c#12], 0xffffffff#32) := by decide

/-- S0 with bank 1 as after V-INTC-2: input 32 raised and unmasked. -/
def raised : State := { s0 with intc := { s0.intc with b1 := ⟨1#32, 0xfffffffe#32, 1#32, true⟩ } }

/-- V-INTC-1. -/
theorem test_request_of_bank_1 :
    (let t := intcDrive .b1 (reqBit 32#8) true s0; t.intc) = ⟨IntcBank.reset, ⟨1#32, 0xffffffff#32, 0#32, false⟩⟩ := by decide

/-- V-INTC-2. -/
theorem test_mask_clear_raises_the_output :
    after (.wrIntcMaskClr .b1 1#32)
      { s0 with intc := { s0.intc with b1 := ⟨1#32, 0xffffffff#32, 0#32, false⟩ } } (·.intc.b1) =
      some ⟨1#32, 0xfffffffe#32, 1#32, true⟩ := by decide

/-- V-INTC-3. -/
theorem test_mask_set_lowers_the_output :
    after (.wrIntcMaskSet .b1 1#32) raised (·.intc.b1) = some ⟨1#32, 0xffffffff#32, 0#32, false⟩ := by decide

/-- V-INTC-4. -/
theorem test_request_lowers_the_output :
    (intcDrive .b1 (reqBit 32#8) false raised).intc.b1 = ⟨0#32, 0xfffffffe#32, 0#32, false⟩ := by decide

/-- V-INTC-5. -/
theorem test_intc_reads :
    after (.rdIntcSource .b1) raised (·.rdata) = some (.word 1#32) ∧
    after (.rdIntcMask .b1) raised (·.rdata) = some (.word 0xfffffffe#32) ∧
    after (.rdIntcPending .b1) raised (·.rdata) = some (.word 1#32) := by decide

/-- V-INTC-6, V-INTC-7: no diagnostic either. -/
theorem test_intc_ignored_writes :
    after (.wrIntcSource .b1 0#32) raised id = some raised ∧ after (.wrIntcPending .b1 1#32) raised id = some raised := by decide

/-- V-INTC-10. -/
theorem test_intc_write_only_read :
    after (.rdIntcMaskClr .b1) s0 (fun t => (t.rdata, t.diags)) = some (.word 0#32, [.woRead .intc 0x02c#12]) := by decide

/-- V-INTC-11, V-INTC-12. -/
theorem test_intc_catch_alls :
    after (.intcReserved1c (.write 0xff#32) .b1) s0 (·.diags) = some [.unknownOffset .intc 0x03c#12] ∧
    after (.intcBankRange .read 0x040#12) s0 (fun t => (t.rdata, t.diags)) = some (.word 0#32, [.bankRange 0x040#12]) := by decide

/-- V-INTC-13. -/
theorem test_request_out_of_range :
    after (.req true 64#8) State.reset (fun t => (t.intc, t.diags)) = some (State.reset.intc, [.reqRange 64#8]) := by decide

/-- V-R-1, V-R-3: every register at its reset value. -/
theorem test_reset_of_a_raised_block :
    after .reset raised id = some State.reset := by decide

/-- V-B-1, V-B-3, V-B-4. -/
theorem test_unsupported_reads :
    after (.tcuUnsupported .read .byte 0x098#12) s0 (fun t => (t.rdata.bytes, t.diags)) =
      some ([0#8], [.badAccess .tcu 0x098#12 .byte]) ∧
    after (.tcuUnsupported .read .dword 0x098#12) s0 (·.rdata.bytes.length) = some 8 ∧
    after (.tcuUnsupported (.write 0xff#32) .byte 0x010#12) State.reset (fun t => (t.enable, t.flag)) =
      some (0#32, 0#32) := by decide

/-- V-B-6. -/
theorem test_cgu :
    after (.rdCgu .word 0#12) State.reset (fun t => (t.rdata, t.cguLog.length, t.flag)) = some (.word 0#32, 1, 0#32) ∧
    after (.wrCgu .word 0x0fc#12 1#32) State.reset (fun t => (t.flag, t.cguLog)) =
      some (0#32, [⟨.write 1#32, .word, 0x0fc#12⟩]) := by decide

/-- V-B-7, V-B-8. -/
theorem test_refusals :
    refusalOf (exec (.notThisBlock .read .word 3#4 0#12) s0) = some (.notThisBlock 3#4 0#12) ∧
    refusalOf (exec (.reservedEvent 3#3 0#16) s0) = some (.reservedEvent 3#3 0#16) := by decide

/-- A word placed as the next operation runs in the next step (log entries 1, 3). -/
theorem test_placed_word_runs :
    (nextOf (step (State.reset.withFetchWord 24 0x62010))).map (fun t => (t.flag, t.inputs)) = some (0x00ff80ff#32, []) := by decide

/-- R80: two operations, in order. -/
theorem test_tcu_setup :
    (Pseudo.expand (.tcuSetup .c5 100#32 50#32)).map (fun l => decode l.operation) =
      [.wrTcuFull5 100#32, .wrTcuHalf5 50#32] := by decide

/-! States and operands that meet the hypotheses of the statements, one theorem for each statement that has
hypotheses; where it has several clauses, at a boundary of each -/

theorem witness_EncodedOperationDecodesToItself :
    (Instr.intcBankRange (.write 7#32) 0x040#12).wellFormed = true ∧ (Instr.wrTcuCount5 7#32).wellFormed = true := by
  decide

/-- The ends of the labelled range, and addresses in each window. -/
theorem witness_AddressBitsAreLabelBits :
    accessOp .read .word 0x10002fff#32 = some ⟨0x22fff#20, 0#32⟩ ∧
    accessOp .read .word 0x10000000#32 = some ⟨0x20000#20, 0#32⟩ ∧
    accessOp .read .byte 0x10001fff#32 = some ⟨0x01fff#20, 0#32⟩ ∧
    accessOp (.write 7#32) .word 0x100021fc#32 = some ⟨0x621fc#20, 7#32⟩ := by
  decide

/-- The last byte of each window, and the first address past it that no window holds. -/
theorem witness_OnlyWindowAddressesReachAUnit :
    unitOfAddress 0x100000ff#32 = some (0#4, 0x0ff#12) ∧ unitOfAddress 0x10001fff#32 = some (1#4, 0xfff#12) ∧
    unitOfAddress 0x100021ff#32 = some (2#4, 0x1ff#12) ∧
    (accessOp .read .word 0x10002200#32 = some ⟨0x22200#20, 0#32⟩ ∧ unitOfAddress 0x10002200#32 = none) := by
  decide

theorem witness_StepRunsTheDecodedOperation :
    ({ State.reset with inputs := [⟨0x80005#20, 0#32⟩, ⟨0xA0000#20, 0#32⟩] } : State).inputs =
      ⟨0x80005#20, 0#32⟩ :: [⟨0xA0000#20, 0#32⟩] := rfl

theorem witness_StepRunsThePlacedWord : decodeTableWord 20 0x80005 = some .tick5 := by decide

theorem witness_StepWithoutOperationIsIdle : State.reset.inputs = [] := rfl

/-- Bank 1: its first and its last input. Bank 0: among the inputs 0 to 3 at least one has no TCU line, whatever
the parameters are; the last conjunct says so. -/
theorem witness_RequestDrivesItsInput :
    ((32#8).toNat < 64 ∧ ∀ k, (32#8).toNat ≠ (lineSource Config.params k).val) ∧
    ((63#8).toNat < 64 ∧ ∀ k, (63#8).toNat ≠ (lineSource Config.params k).val) ∧
    ((∀ k, (0#8).toNat ≠ (lineSource Config.params k).val) ∨ (∀ k, (1#8).toNat ≠ (lineSource Config.params k).val) ∨
      (∀ k, (2#8).toNat ≠ (lineSource Config.params k).val) ∨ ∀ k, (3#8).toNat ≠ (lineSource Config.params k).val) := by
  have lt (k : Line) := (lineSource Config.params k).isLt
  refine ⟨⟨by decide, fun k h => ?_⟩, ⟨by decide, fun k h => ?_⟩, ?_⟩
  · have := lt k; have e : (32#8).toNat = 32 := rfl; omega
  · have := lt k; have e : (63#8).toNat = 63 := rfl; omega
  · have all (n : Nat) (h0 : n ≠ (lineSource Config.params .l0).val) (h1 : n ≠ (lineSource Config.params .l1).val)
        (h2 : n ≠ (lineSource Config.params .l2).val) : ∀ k, n ≠ (lineSource Config.params k).val := by
      intro k; cases k <;> assumption
    have e0 : (0#8).toNat = 0 := rfl
    have e1 : (1#8).toNat = 1 := rfl
    have e2 : (2#8).toNat = 2 := rfl
    have e3 : (3#8).toNat = 3 := rfl
    rw [e0, e1, e2, e3]
    by_contra hc
    simp only [not_or] at hc
    obtain ⟨c0, c1, c2, c3⟩ := hc
    have hit (n : Nat) (hn : ¬ ∀ k, n ≠ (lineSource Config.params k).val) :
        n = (lineSource Config.params .l0).val ∨ n = (lineSource Config.params .l1).val ∨
        n = (lineSource Config.params .l2).val := by
      by_contra h
      simp only [not_or] at h
      exact hn (all n h.1 h.2.1 h.2.2)
    have := hit 0 c0; have := hit 1 c1; have := hit 2 c2; have := hit 3 c3
    omega

theorem witness_RequestOutOfRangeIsDropped : 64 ≤ (64#8).toNat ∧ 64 ≤ (255#8).toNat := by decide

/-- A state in which bank 1 has a pending input; it is good, and the operation of its list runs. -/
def busy : State := { raised with inputs := [⟨0x61028#20, 1#32⟩] }

theorem busy_intc : IntcConsistent busy := by
  intro b; cases b <;> decide

theorem busy_good : Inv busy where
  intc := busy_intc
  lines := by simp [LinesFollowFlags, busy, raised, s0, State.reset]
  wires := by simp [InputsFollowLines, busy, raised, s0, State.reset, IntcBank.reset]
  counts := by intro c; left; cases c <;> rfl
  thresholds := by
    have e : (0x100#32 : Word) ≤ 0xFFFF#32 ∧ (0x80#32 : Word) ≤ 0xFFFF#32 := by decide
    intro c; cases c <;> exact e
  ticks := by intro c; cases c <;> rfl

theorem witness_EveryStepKeepsTheInvariant :
    Inv busy ∧ step busy = .next (intcMaskWrite .set .b1 1#32 { busy with inputs := [] }) :=
  ⟨busy_good, rfl⟩

theorem witness_PendingIsSourceAndNotMask :
    (IntcConsistent busy ∧ step busy = .next (intcMaskWrite .set .b1 1#32 { busy with inputs := [] })) ∧
    exec (.wrIntcMask .b0 0#32) busy = .next (intcMaskWrite .whole .b0 0#32 busy) ∧
    exec (.wrIntcMaskClr .b1 1#32) busy = .next (intcMaskWrite .clr .b1 1#32 busy) ∧
    ((63#8).toNat / 32 = Bank.b1.index ∧ exec (.req false 63#8) busy = .next (intcDrive .b1 31 false busy)) := by
  refine ⟨⟨busy_intc, rfl⟩, rfl, rfl, rfl, ?_⟩
  have free : isTcuDriven Config.params 63#8 = false := by
    have e : (63#8).toNat = 63 := rfl
    have h0 := Config.params.irqSrc0.isLt
    have h1 := Config.params.irqSrc1.isLt
    have h2 := Config.params.irqSrc2.isLt
    simp only [isTcuDriven, decide_eq_false_iff_not, e]
    omega
  show (if isTcuDriven Config.params 63#8 = true then _ else _) = _
  rw [free]
  rfl

theorem witness_IntcReadsAnswerTheRegister : IntcConsistent busy := busy_intc

/-- The first and the last aligned offset past bank 1. -/
theorem witness_IntcCatchAllsAreDropped :
    (0x040#12).toNat % 4 = 0 ∧ 2 ≤ (0x040#12).toNat / 0x20 ∧ (0xffc#12).toNat % 4 = 0 ∧ 2 ≤ (0xffc#12).toNat / 0x20 ∧
    ((Access.read = .read ∧ 0x21000 = 0x21000) ∨ (Access.read = .write 7#32 ∧ 0x21000 = 0x61000)) ∧
    ((Access.write 7#32 = .read ∧ 0x61000 = 0x21000) ∨ (Access.write 7#32 = .write 7#32 ∧ 0x61000 = 0x61000)) := by
  decide

theorem witness_TcuCountReadsAnswerTheCount : CountsBelowFull busy := busy_good.counts

/-- The ends of the three ranges. -/
theorem witness_TcuReservedOffsetsAreDropped :
    [0x000#12, 0x00c#12, 0x0c0#12, 0x12c#12, 0x140#12, 0x1fc#12].all (fun off => decide (off.toNat % 4 = 0 ∧
      (off.toNat ≤ 0x00c ∨ (0x0c0 ≤ off.toNat ∧ off.toNat ≤ 0x12f) ∨ (0x140 ≤ off.toNat ∧ off.toNat ≤ 0x1ff)))) =
      true := by
  decide

theorem witness_LinesDriveTheirInputs : (params 1#32).Ok := by decide

/-- A good state with the OS timer's flag set and unmasked at the TCU and at the INTC: lines and inputs follow. -/
def signalling : State :=
  withLines Config.params
    { s0 with flag := 0x8000#32, mask := 0xffff7fff#32, intc := { s0.intc with b0 := ⟨0#32, 0#32, 0#32, false⟩ } }

theorem signalling_good : Inv signalling where
  intc := by
    intro b
    cases b
    · simp [signalling, withLines, State.bank, bankOf]
    · decide
  lines := by simp [signalling, LinesFollowFlags, withLines]
  wires := withLines_wires Config.params _ params_ok
  counts := by intro c; left; cases c <;> rfl
  thresholds := by
    have e : (0x100#32 : Word) ≤ 0xFFFF#32 ∧ (0x80#32 : Word) ≤ 0xFFFF#32 := by decide
    intro c; cases c <;> exact e
  ticks := by intro c; cases c <;> rfl

theorem witness_UnmaskedFlagReachesTheProcessorLine :
    Inv signalling ∧ (lineBits .l0).getLsbD 15 = true ∧ signalling.flag.getLsbD 15 = true ∧
    signalling.mask.getLsbD 15 = false ∧
    signalling.intc.b0.mask.getLsbD (lineSource Config.params .l0).val = false :=
  ⟨signalling_good, by decide, by decide, by decide, by
    show (0#32).getLsbD _ = false
    simp⟩

theorem witness_ReadsChangeNoRegister :
    (isBusRead .rdTcuFlag = true ∧ exec .rdTcuFlag s0 = .next (s0.respond (.word 0#32))) ∧
    isBusRead (.tcuUnsupported .read .byte 0x098#12) = true ∧ isBusRead (.rdCgu .dword 0#12) = true :=
  ⟨⟨by decide, rfl⟩, by decide, by decide⟩

/-- A tick keeps a flag of another channel, and so does a flag-set write. -/
theorem witness_FlagsAreSticky :
    exec .tick5 { s0 with flag := 8#32 } = .next (tick Config.params .c5 { s0 with flag := 8#32 }) ∧
    (∀ v, Instr.tick5 ≠ .wrTcuFlag v) ∧ (∀ v, Instr.tick5 ≠ .wrTcuFlagClr v) ∧ Instr.tick5 ≠ .reset ∧
    (8#32).getLsbD 3 = true :=
  ⟨rfl, by simp, by simp, by simp, by decide⟩

theorem witness_HardwareSetsOnlyChannelFlags :
    exec .tick5 State.reset = .next (tick Config.params .c5 State.reset) ∧
    (∀ v, Instr.tick5 ≠ .wrTcuFlag v) ∧ (∀ v, Instr.tick5 ≠ .wrTcuFlagSet v) ∧
    State.reset.flag.getLsbD 21 = false ∧ (tick Config.params .c5 State.reset).flag.getLsbD 21 = true :=
  ⟨rfl, by simp, by simp, by decide, by decide⟩

/-- Both conditions hold of every channel after reset, and no condition holds of any in S0: bit 31 is never set
again, bit 15 by the OS timer, bit 23 by channel 7. -/
theorem witness_FlagWriteSetsHoldingConditionsAgain :
    15 < 32 ∧ 23 < 32 ∧ 31 < 32 ∧ Overflows State.reset .ost ∧ HalfOverflows State.reset .c7 ∧
    ¬ HalfOverflows State.reset .ost ∧ ¬ Overflows s0 .c7 ∧ ¬ HalfOverflows s0 .c7 := by
  refine ⟨by decide, by decide, by decide, ?_, ?_, ?_, ?_, ?_⟩
  · show (0#32 : Word) ≤ 0#32; decide
  · exact ⟨by decide, by show (0#32 : Word) ≤ 0#32; decide⟩
  · exact fun h => h.1 rfl
  · show ¬ (0x100#32 : Word) ≤ 0#32; decide
  · exact fun h => absurd h.2 (by show ¬ (0x80#32 : Word) ≤ 0#32; decide)

theorem witness_WholeWordWritesAreIdempotent :
    exec (.wrTcuEnable 3#32) s0 = .next (globalWrite Config.params .enable .whole 3#32 s0) ∧
    exec (.wrTcuStop 3#32) s0 = .next (globalWrite Config.params .stop .whole 3#32 s0) ∧
    exec (.wrTcuMask 3#32) s0 = .next (globalWrite Config.params .mask .whole 3#32 s0) ∧
    exec (.wrIntcMask .b1 3#32) s0 = .next (intcMaskWrite .whole .b1 3#32 s0) ∧
    CountsBelowFull busy ∧ exec (.wrTcuFlag 3#32) busy = .next (globalWrite Config.params .flag .whole 3#32 busy) :=
  ⟨rfl, rfl, rfl, rfl, busy_good.counts, rfl⟩

theorem witness_RecomputeOrderDoesNotMatter : Chan.all.reverse.Perm Chan.all := List.reverse_perm _

theorem witness_TicksOfTwoChannelsCommute :
    Chan.c5 ≠ Chan.ost ∧
    exec (Instr.tickAt .c5) State.reset = .next (tick Config.params .c5 State.reset) ∧
    exec (Instr.tickAt .ost) (tick Config.params .c5 State.reset) =
      .next (tick Config.params .ost (tick Config.params .c5 State.reset)) ∧
    exec (Instr.tickAt .ost) State.reset = .next (tick Config.params .ost State.reset) ∧
    exec (Instr.tickAt .c5) (tick Config.params .ost State.reset) =
      .next (tick Config.params .c5 (tick Config.params .ost State.reset)) :=
  ⟨by decide, rfl, rfl, rfl, rfl⟩

theorem witness_IntcOperationsTouchOneBank :
    Bank.b1 ≠ Bank.b0 ∧ exec (.wrIntcMask .b0 0#32) busy = .next (intcMaskWrite .whole .b0 0#32 busy) ∧
    Bank.b0 ≠ Bank.b1 ∧ (63#8).toNat / 32 = Bank.b1.index ∧
      exec (.req false 63#8) busy = .next (intcDrive .b1 31 false busy) :=
  ⟨by decide, rfl, by decide, rfl, witness_PendingIsSourceAndNotMask.2.2.2.2⟩

/-- A mask-set write lowers bank 1's output, and so does RESET. -/
theorem witness_OutputLineFallsOnlyByProducerOrMask :
    (Inv busy ∧ exec (.wrIntcMaskSet .b1 1#32) busy = .next (intcMaskWrite .set .b1 1#32 busy) ∧
      (busy.bank .b1).irqOut = true ∧ ((intcMaskWrite .set .b1 1#32 busy).bank .b1).irqOut = false) ∧
    (Inv busy ∧ exec .reset busy = .next (resetRegisters busy) ∧ ((resetRegisters busy).bank .b1).irqOut = false) :=
  ⟨⟨busy_good, rfl, rfl, by decide⟩, busy_good, rfl, rfl⟩

theorem witness_GlobalWordsHaveTheirOwnWriters :
    exec .tick5 State.reset = .next (tick Config.params .c5 State.reset) ∧ Instr.tick5 ≠ .reset ∧
    (∀ v, Instr.tick5 ≠ .wrTcuEnable v ∧ Instr.tick5 ≠ .wrTcuEnableSet v ∧ Instr.tick5 ≠ .wrTcuEnableClr v) ∧
    (∀ v, Instr.tick5 ≠ .wrTcuStop v ∧ Instr.tick5 ≠ .wrTcuStopSet v ∧ Instr.tick5 ≠ .wrTcuStopClr v) ∧
    (∀ v, Instr.tick5 ≠ .wrTcuMask v ∧ Instr.tick5 ≠ .wrTcuMaskSet v ∧ Instr.tick5 ≠ .wrTcuMaskClr v) := by
  refine ⟨rfl, ?_, ?_, ?_, ?_⟩ <;> simp

/-- Channel 3 under a disabled tick, where the count stays, and under a full write below its count, where it is
put to 0. -/
theorem witness_ChannelRegistersHaveTheirOwnWriters :
    (exec .tick3 s0 = .next (tick Config.params .c3 s0) ∧ Instr.tick3 ≠ .reset ∧
      (∀ v, Instr.tick3 ≠ Instr.wrTcuFullAt .c3 v) ∧ (∀ v, Instr.tick3 ≠ Instr.wrTcuHalfAt .c3 v) ∧
      (∀ v, Instr.tick3 ≠ Instr.wrTcuCtrlAt .c3 v) ∧ (∀ v, Instr.tick3 ≠ Instr.wrTcuCountAt .c3 v) ∧
      ¬ (Instr.tick3 = Instr.tickAt .c3 ∧ s0.enable.getLsbD Chan.c3.index = true)) ∧
    (exec (.wrTcuFull3 0x40#32) (counting 0#32 0x50#32) =
        .next (writeFull Config.params .c3 0x40#32 (counting 0#32 0x50#32)) ∧
      Instr.wrTcuFull3 0x40#32 ≠ .reset ∧ ∀ v, Instr.wrTcuFull3 0x40#32 ≠ Instr.wrTcuCountAt .c3 v) :=
  ⟨⟨rfl, by decide, by simp [Instr.wrTcuFullAt], by simp [Instr.wrTcuHalfAt], by simp [Instr.wrTcuCtrlAt],
    by simp [Instr.wrTcuCountAt], fun h => absurd h.2 (by decide)⟩, rfl, by decide, by simp [Instr.wrTcuCountAt]⟩

theorem witness_StopGatesNothing : Instr.tick5 ≠ .rdTcuStop ∧ Instr.wrTcuStop 0#32 ≠ .rdTcuStop := by decide

/-- The period table of 95_test_vectors.md, `F = 10`, `K = 3`: the last tick of the period is the fourth. -/
theorem witness_OverflowPeriod :
    let s := ({ s0 with enable := 4#32 }).setChan .c2 ⟨0#32, 10#32, 4#32, 0#32, true⟩
    (params 3#32).tickIncrement.toNat = 3 ∧ 1 ≤ 3 ∧ 3 ≤ 0xFFFFFFFF - 0xFFFF ∧
    (s.chan .c2).full.toNat = 10 ∧ 1 ≤ 10 ∧ 10 ≤ 0xFFFF ∧ (s.chan .c2).half.toNat = 4 ∧
    s.enable.getLsbD Chan.c2.index = true ∧ (s.chan .c2).count = 0#32 ∧
    0 ≤ (10 + 3 - 1) / 3 ∧ 3 ≤ (10 + 3 - 1) / 3 ∧ 4 = (10 + 3 - 1) / 3 := by
  decide

/-- The same period run: the half flag at tick 2, the overflow flag at tick 4. -/
theorem test_period :
    let s := ({ s0 with enable := 4#32 }).setChan .c2 ⟨0#32, 10#32, 4#32, 0#32, true⟩
    (tickMany (params 3#32) .c2 1 s).flag = 0#32 ∧ (tickMany (params 3#32) .c2 2 s).flag = 0x00040000#32 ∧
    ((tickMany (params 3#32) .c2 3 s).chan .c2).count = 9#32 ∧
    (tickMany (params 3#32) .c2 4 s).flag = 0x00040004#32 ∧
    ((tickMany (params 3#32) .c2 4 s).chan .c2).count = 0#32 := by
  decide

end Sys2Proof.Tests
end

section
/-! SUPPORT. What an operation does, said once for all 128 rows of `exec`: each row has one of eleven
effects, and which rows have an effect that writes a register. -/
namespace Sys2Proof.Proofs
open Sys2Proof.Machine Sys2Proof.Safety

/-- What a bus read answers: a register, or the zero bytes of a diagnosed or CGU read. -/
inductive Reading
  | source (b : Bank)
  | intcMask (b : Bank)
  | pending (b : Bank)
  | word (w : GlobalWord)
  | count (c : Chan)
  | diagnosed (d : Diag) (sz : Size)
  | cgu (sz : Size) (off : BitVec 12)

/-- The answer of a read. -/
def Reading.value (r : Reading) (s : State) : RData :=
  match r with
  | .source b => .word (s.bank b).source
  | .intcMask b => .word (s.bank b).mask
  | .pending b => .word (s.bank b).pending
  | .word w => .word (s.word w)
  | .count c => .word (s.chan c).count
  | .diagnosed _ sz => RData.zero sz
  | .cgu sz _ => RData.zero sz

/-- The state with the log record of a read, if it makes one. -/
def Reading.record (r : Reading) (s : State) : State :=
  match r with
  | .diagnosed d _ => s.emit d
  | .cgu sz off => s.logCgu { acc := .read, sz := sz, off := off }
  | _ => s

/-- The four registers of a channel (10_state.md R28 to R31). -/
inductive ChanField | full | half | count | ctrl

/-- The record after a write of one of its registers (41_tcu_channel.md R134 to R137). -/
def ChanField.write (f : ChanField) (v : Word) (r : Channel) : Channel :=
  match f with
  | .full => { r with full := thresholdData v }
  | .half => { r with half := thresholdData v }
  | .count => { r with count := v }
  | .ctrl => { r with ctrl := v }

/-- The effects that operations have: `drop`, `emit` and `logCgu` are those of writes that reach no
register. -/
inductive Effect
  | tick (c : Chan)
  | request (lv : Bool) (idx : BitVec 8)
  | reset
  | refuse (r : Refusal)
  | read (r : Reading)
  | drop
  | emit (d : Diag)
  | logCgu (a : CguAccess)
  | intcMask (op : BitsetOp) (b : Bank) (v : Word)
  | channel (c : Chan) (f : ChanField) (v : Word)
  | word (w : GlobalWord) (op : BitsetOp) (v : Word)

/-- The outcome of an effect, in the model's shared operations. -/
def Effect.run (e : Effect) (s : State) : Host.Outcome State Fault Refusal :=
  match e with
  | .tick c => .next (Machine.tick Config.params c s)
  | .request lv idx => Machine.request Config.params lv idx s
  | .reset => .next (resetRegisters s)
  | .refuse r => .refused r
  | .read r => .next ((r.record s).respond (r.value s))
  | .drop => .next s
  | .emit d => .next (s.emit d)
  | .logCgu a => .next (s.logCgu a)
  | .intcMask op b v => .next (intcMaskWrite op b v s)
  | .channel c f v => .next (channelWrite Config.params c (f.write v) s)
  | .word w op v => .next (globalWrite Config.params w op v s)

/-- The effect of a diagnosed access: a read answers zero bytes, a write is dropped. -/
def Effect.diagnosed (d : Diag) (acc : Access) (sz : Size) : Effect :=
  match acc with
  | .read => .read (.diagnosed d sz)
  | .write _ => .emit d

/-- The effect of each operation. -/
def effect (i : Instr) : Effect :=
  match i with
  | .tick0 => .tick .c0
  | .tick1 => .tick .c1
  | .tick2 => .tick .c2
  | .tick3 => .tick .c3
  | .tick4 => .tick .c4
  | .tick5 => .tick .c5
  | .tick6 => .tick .c6
  | .tick7 => .tick .c7
  | .tick15 => .tick .ost
  | .req lv idx => .request lv idx
  | .reset => .reset
  | .reservedEvent ek payload => .refuse (.reservedEvent ek payload)
  | .rdCgu sz off => .read (.cgu sz off)
  | .wrCgu sz off v => .logCgu { acc := .write v, sz := sz, off := off }
  | .intcUnsupported acc sz off => .diagnosed (.badAccess .intc off sz) acc sz
  | .tcuUnsupported acc sz off => .diagnosed (.badAccess .tcu off sz) acc sz
  | .rdIntcSource b => .read (.source b)
  | .wrIntcSource _ _ => .drop
  | .rdIntcMask b => .read (.intcMask b)
  | .wrIntcMask b v => .intcMask .whole b v
  | .rdIntcMaskSet b => .read (.diagnosed (.woRead .intc (intcOffset b 0x08)) .word)
  | .wrIntcMaskSet b v => .intcMask .set b v
  | .rdIntcMaskClr b => .read (.diagnosed (.woRead .intc (intcOffset b 0x0c)) .word)
  | .wrIntcMaskClr b v => .intcMask .clr b v
  | .rdIntcPending b => .read (.pending b)
  | .wrIntcPending _ _ => .drop
  | .intcReserved14 acc b => .diagnosed (.unknownOffset .intc (intcOffset b 0x14)) acc .word
  | .intcReserved18 acc b => .diagnosed (.unknownOffset .intc (intcOffset b 0x18)) acc .word
  | .intcReserved1c acc b => .diagnosed (.unknownOffset .intc (intcOffset b 0x1c)) acc .word
  | .intcBankRange acc off => .diagnosed (.bankRange off) acc .word
  | .rdTcuEnable => .read (.word .enable)
  | .wrTcuEnable v => .word .enable .whole v
  | .rdTcuEnableSet => .read (.diagnosed (.woRead .tcu 0x014#12) .word)
  | .wrTcuEnableSet v => .word .enable .set v
  | .rdTcuEnableClr => .read (.diagnosed (.woRead .tcu 0x018#12) .word)
  | .wrTcuEnableClr v => .word .enable .clr v
  | .rdTcuStop => .read (.word .stop)
  | .wrTcuStop v => .word .stop .whole v
  | .rdTcuFlag => .read (.word .flag)
  | .wrTcuFlag v => .word .flag .whole v
  | .rdTcuFlagSet => .read (.diagnosed (.woRead .tcu 0x024#12) .word)
  | .wrTcuFlagSet v => .word .flag .set v
  | .rdTcuFlagClr => .read (.diagnosed (.woRead .tcu 0x028#12) .word)
  | .wrTcuFlagClr v => .word .flag .clr v
  | .rdTcuStopSet => .read (.diagnosed (.woRead .tcu 0x02c#12) .word)
  | .wrTcuStopSet v => .word .stop .set v
  | .rdTcuMask => .read (.word .mask)
  | .wrTcuMask v => .word .mask .whole v
  | .rdTcuMaskSet => .read (.diagnosed (.woRead .tcu 0x034#12) .word)
  | .wrTcuMaskSet v => .word .mask .set v
  | .rdTcuMaskClr => .read (.diagnosed (.woRead .tcu 0x038#12) .word)
  | .wrTcuMaskClr v => .word .mask .clr v
  | .rdTcuStopClr => .read (.diagnosed (.woRead .tcu 0x03c#12) .word)
  | .wrTcuStopClr v => .word .stop .clr v
  | .rdTcuFull0 => .read (.diagnosed (.unhandledRead .c0 .full) .word)
  | .wrTcuFull0 v => .channel .c0 .full v
  | .rdTcuHalf0 => .read (.diagnosed (.unhandledRead .c0 .half) .word)
  | .wrTcuHalf0 v => .channel .c0 .half v
  | .rdTcuCount0 => .read (.count .c0)
  | .wrTcuCount0 v => .channel .c0 .count v
  | .rdTcuCtrl0 => .read (.diagnosed (.unhandledRead .c0 .ctrl) .word)
  | .wrTcuCtrl0 v => .channel .c0 .ctrl v
  | .rdTcuFull1 => .read (.diagnosed (.unhandledRead .c1 .full) .word)
  | .wrTcuFull1 v => .channel .c1 .full v
  | .rdTcuHalf1 => .read (.diagnosed (.unhandledRead .c1 .half) .word)
  | .wrTcuHalf1 v => .channel .c1 .half v
  | .rdTcuCount1 => .read (.count .c1)
  | .wrTcuCount1 v => .channel .c1 .count v
  | .rdTcuCtrl1 => .read (.diagnosed (.unhandledRead .c1 .ctrl) .word)
  | .wrTcuCtrl1 v => .channel .c1 .ctrl v
  | .rdTcuFull2 => .read (.diagnosed (.unhandledRead .c2 .full) .word)
  | .wrTcuFull2 v => .channel .c2 .full v
  | .rdTcuHalf2 => .read (.diagnosed (.unhandledRead .c2 .half) .word)
  | .wrTcuHalf2 v => .channel .c2 .half v
  | .rdTcuCount2 => .read (.count .c2)
  | .wrTcuCount2 v => .channel .c2 .count v
  | .rdTcuCtrl2 => .read (.diagnosed (.unhandledRead .c2 .ctrl) .word)
  | .wrTcuCtrl2 v => .channel .c2 .ctrl v
  | .rdTcuFull3 => .read (.diagnosed (.unhandledRead .c3 .full) .word)
  | .wrTcuFull3 v => .channel .c3 .full v
  | .rdTcuHalf3 => .read (.diagnosed (.unhandledRead .c3 .half) .word)
  | .wrTcuHalf3 v => .channel .c3 .half v
  | .rdTcuCount3 => .read (.count .c3)
  | .wrTcuCount3 v => .channel .c3 .count v
  | .rdTcuCtrl3 => .read (.diagnosed (.unhandledRead .c3 .ctrl) .word)
  | .wrTcuCtrl3 v => .channel .c3 .ctrl v
  | .rdTcuFull4 => .read (.diagnosed (.unhandledRead .c4 .full) .word)
  | .wrTcuFull4 v => .channel .c4 .full v
  | .rdTcuHalf4 => .read (.diagnosed (.unhandledRead .c4 .half) .word)
  | .wrTcuHalf4 v => .channel .c4 .half v
  | .rdTcuCount4 => .read (.count .c4)
  | .wrTcuCount4 v => .channel .c4 .count v
  | .rdTcuCtrl4 => .read (.diagnosed (.unhandledRead .c4 .ctrl) .word)
  | .wrTcuCtrl4 v => .channel .c4 .ctrl v
  | .rdTcuFull5 => .read (.diagnosed (.unhandledRead .c5 .full) .word)
  | .wrTcuFull5 v => .channel .c5 .full v
  | .rdTcuHalf5 => .read (.diagnosed (.unhandledRead .c5 .half) .word)
  | .wrTcuHalf5 v => .channel .c5 .half v
  | .rdTcuCount5 => .read (.count .c5)
  | .wrTcuCount5 v => .channel .c5 .count v
  | .rdTcuCtrl5 => .read (.diagnosed (.unhandledRead .c5 .ctrl) .word)
  | .wrTcuCtrl5 v => .channel .c5 .ctrl v
  | .rdTcuFull6 => .read (.diagnosed (.unhandledRead .c6 .full) .word)
  | .wrTcuFull6 v => .channel .c6 .full v
  | .rdTcuHalf6 => .read (.diagnosed (.unhandledRead .c6 .half) .word)
  | .wrTcuHalf6 v => .channel .c6 .half v
  | .rdTcuCount6 => .read (.count .c6)
  | .wrTcuCount6 v => .channel .c6 .count v
  | .rdTcuCtrl6 => .read (.diagnosed (.unhandledRead .c6 .ctrl) .word)
  | .wrTcuCtrl6 v => .channel .c6 .ctrl v
  | .rdTcuFull7 => .read (.diagnosed (.unhandledRead .c7 .full) .word)
  | .wrTcuFull7 v => .channel .c7 .full v
  | .rdTcuHalf7 => .read (.diagnosed (.unhandledRead .c7 .half) .word)
  | .wrTcuHalf7 v => .channel .c7 .half v
  | .rdTcuCount7 => .read (.count .c7)
  | .wrTcuCount7 v => .channel .c7 .count v
  | .rdTcuCtrl7 => .read (.diagnosed (.unhandledRead .c7 .ctrl) .word)
  | .wrTcuCtrl7 v => .channel .c7 .ctrl v
  | .rdTcuFull15 => .read (.diagnosed (.unhandledRead .ost .full) .word)
  | .wrTcuFull15 v => .channel .ost .full v
  | .rdTcuHalf15 => .read (.diagnosed (.unhandledRead .ost .half) .word)
  | .wrTcuHalf15 v => .channel .ost .half v
  | .rdTcuCount15 => .read (.count .ost)
  | .wrTcuCount15 v => .channel .ost .count v
  | .rdTcuCtrl15 => .read (.diagnosed (.unhandledRead .ost .ctrl) .word)
  | .wrTcuCtrl15 v => .channel .ost .ctrl v
  | .tcuReserved acc off => .diagnosed (.unknownOffset .tcu off) acc .word
  | .notThisBlock _ _ unit off => .refuse (.notThisBlock unit off)

/-- Every operation does what its effect says. -/
theorem exec_eq_run (i : Instr) (s : State) : exec i s = (effect i).run s := by
  cases i with
  | intcUnsupported acc | tcuUnsupported acc | intcReserved14 acc | intcReserved18 acc
  | intcReserved1c acc | intcBankRange acc | tcuReserved acc => cases acc <;> rfl
  | _ => rfl

/-! The operations that write a register -/

/-- The write of a channel register. -/
def channelWriter (c : Chan) (f : ChanField) (v : Word) : Instr :=
  match f with
  | .full => .wrTcuFullAt c v
  | .half => .wrTcuHalfAt c v
  | .count => .wrTcuCountAt c v
  | .ctrl => .wrTcuCtrlAt c v

/-- The write of a global word. -/
def wordWriter (w : GlobalWord) (op : BitsetOp) (v : Word) : Instr :=
  match w, op with
  | .enable, .whole => .wrTcuEnable v
  | .enable, .set => .wrTcuEnableSet v
  | .enable, .clr => .wrTcuEnableClr v
  | .stop, .whole => .wrTcuStop v
  | .stop, .set => .wrTcuStopSet v
  | .stop, .clr => .wrTcuStopClr v
  | .flag, .whole => .wrTcuFlag v
  | .flag, .set => .wrTcuFlagSet v
  | .flag, .clr => .wrTcuFlagClr v
  | .mask, .whole => .wrTcuMask v
  | .mask, .set => .wrTcuMaskSet v
  | .mask, .clr => .wrTcuMaskClr v

/-- The operation that alone has the effect, where the effect writes a channel or a global word, ticks,
resets or reads the stop word. -/
def soleOperation : Effect → Option Instr
  | .tick c => some (.tickAt c)
  | .reset => some .reset
  | .read (.word .stop) => some .rdTcuStop
  | .channel c f v => some (channelWriter c f v)
  | .word w op v => some (wordWriter w op v)
  | _ => none

/-- No other operation has that effect. -/
theorem eq_of_soleOperation (i j : Instr) (h : soleOperation (effect i) = some j) : i = j := by
  cases i with
  | intcUnsupported acc | tcuUnsupported acc | intcReserved14 acc | intcReserved18 acc
  | intcReserved1c acc | intcBankRange acc | tcuReserved acc => cases acc <;> cases h
  | _ => cases h <;> rfl

theorem eq_tickAt_of_effect (i : Instr) (c : Chan) (h : effect i = .tick c) : i = .tickAt c :=
  eq_of_soleOperation i _ (by rw [h]; rfl)

theorem eq_reset_of_effect (i : Instr) (h : effect i = .reset) : i = .reset :=
  eq_of_soleOperation i _ (by rw [h]; rfl)

theorem eq_rdTcuStop_of_effect (i : Instr) (h : effect i = .read (.word .stop)) : i = .rdTcuStop :=
  eq_of_soleOperation i _ (by rw [h]; rfl)

theorem eq_channelWriter_of_effect (i : Instr) (c : Chan) (f : ChanField) (v : Word)
    (h : effect i = .channel c f v) : i = channelWriter c f v :=
  eq_of_soleOperation i _ (by rw [h]; rfl)

theorem eq_wordWriter_of_effect (i : Instr) (w : GlobalWord) (op : BitsetOp) (v : Word)
    (h : effect i = .word w op v) : i = wordWriter w op v :=
  eq_of_soleOperation i _ (by rw [h]; rfl)

/-! Bus reads -/

/-- Whether an effect answers a bus read. -/
def Effect.isRead : Effect → Bool
  | .read _ => true
  | _ => false

/-- The class and direction bits of a bus label say a read where the direction is one. -/
theorem readBits_busOp (acc : Access) (sz : Size) (u : BitVec 4) (off : BitVec 12) :
    (!(busOp acc sz u off).label.getLsbD 19 && !(busOp acc sz u off).label.getLsbD 18) =
      !acc.isWrite := by
  simp only [busOp, busLabel_class, busLabel_write, Bool.not_false, Bool.true_and]

/-- The class bit of an event says no bus read. -/
theorem readBits_eventOp (ek : BitVec 3) (p : BitVec 16) :
    (!(eventOp ek p).label.getLsbD 19 && !(eventOp ek p).label.getLsbD 18) = false := by
  simp only [eventOp, eventLabel_class, Bool.not_true, Bool.false_and]

/-- Where an operation is not refused, it answers if its label is a bus read. -/
theorem isBusRead_eq_isRead (i : Instr) (h : ∀ r, effect i ≠ .refuse r) :
    isBusRead i = (effect i).isRead := by
  cases i with
  | reservedEvent ek p => exact absurd rfl (h _)
  | notThisBlock acc sz u off => exact absurd rfl (h _)
  | tick0 | tick1 | tick2 | tick3 | tick4 | tick5 | tick6 | tick7 | tick15 | req | reset =>
    exact readBits_eventOp _ _
  | intcUnsupported acc | tcuUnsupported acc | intcReserved14 acc | intcReserved18 acc
  | intcReserved1c acc | intcBankRange acc | tcuReserved acc =>
    cases acc <;> exact readBits_busOp _ _ _ _
  | _ => exact readBits_busOp _ _ _ _

end Sys2Proof.Proofs
end


section
/-! SUPPORT. What a step can do to the INTC's banks, to a global word and to a channel's record, said once
for every effect. -/
namespace Sys2Proof.Proofs
open Sys2Proof.Machine Sys2Proof.Safety

/-- A completed request is out of range and recorded, or drives its input. -/
theorem request_eq_next {P : Params} {lv : Bool} {idx : BitVec 8} {s t : State}
    (h : request P lv idx s = .next t) :
    (reqBank idx = none ∧ t = s.emit (.reqRange idx)) ∨
      ∃ b, reqBank idx = some b ∧ t = intcDrive b (reqBit idx) lv s := by
  unfold request at h
  split at h
  · next hb => cases h; exact .inl ⟨hb, rfl⟩
  · next b hb =>
    split at h
    · cases h
    · cases h; exact .inr ⟨b, hb, rfl⟩

/-! The banks -/

@[simp] theorem recomputeList_intc (cs : List Chan) (s : State) : (recomputeList cs s).intc = s.intc := by
  induction cs generalizing s with
  | nil => rfl
  | cons c cs ih => rw [recomputeList, ih, chanRecompute_intc]

@[simp] theorem recomputeAll_intc (s : State) : (recomputeAll s).intc = s.intc := recomputeList_intc _ s

@[simp] theorem countTick_intc (P : Params) (c : Chan) (s : State) : (countTick P c s).intc = s.intc := by
  unfold countTick; split <;> rfl

@[simp] theorem record_intc (r : Reading) (s : State) : (r.record s).intc = s.intc := by
  cases r <;> rfl

/-- R26 is about the banks alone. -/
theorem intcConsistent_of_intc_eq {s t : State} (h : IntcConsistent s) (e : t.intc = s.intc) :
    IntcConsistent t := fun b => by rw [bank_congr t s b e]; exact h b

/-- A recomputed bank keeps R26, whatever its source and mask. -/
theorem intcConsistent_setBank_bankOf {s : State} (h : IntcConsistent s) (b : Bank) (src mask : Word) :
    IntcConsistent (s.setBank b (bankOf src mask)) := by
  intro d
  by_cases e : d = b
  · subst e; rw [bank_setBank_same]; exact ⟨rfl, decide_eq_true_iff⟩
  · rw [bank_setBank_ne s b d _ e]; exact h d

theorem intcConsistent_intcDrive {s : State} (h : IntcConsistent s) (b : Bank) (i : Fin 32) (lv : Bool) :
    IntcConsistent (intcDrive b i lv s) := by
  rw [intcDrive_eq]; exact intcConsistent_setBank_bankOf h _ _ _

theorem intcConsistent_linesRecompute {s : State} (h : IntcConsistent s) (P : Params) :
    IntcConsistent (linesRecompute P s) := by
  have drive (k : Line) {t : State} (ht : IntcConsistent t) : IntcConsistent (driveLine P k t) :=
    intcConsistent_intcDrive (intcConsistent_of_intc_eq ht (setLine_intc t k _)) _ _ _
  exact drive .l2 (drive .l1 (drive .l0 h))

/-- The banks after reset meet R26. -/
theorem intcConsistent_of_reset {s : State} (h : ∀ b, s.bank b = IntcBank.reset) : IntcConsistent s := by
  intro b; rw [h b]; decide

/-- Every effect keeps R26. -/
theorem intcConsistent_run {e : Effect} {s t : State} (hs : IntcConsistent s) (h : e.run s = .next t) :
    IntcConsistent t := by
  cases e with
  | tick c =>
    cases h
    refine intcConsistent_of_intc_eq (intcConsistent_linesRecompute ?_ _) (rearm_intc c _)
    exact intcConsistent_of_intc_eq hs ((chanRecompute_intc c _).trans (countTick_intc _ c s))
  | request lv idx =>
    obtain ⟨-, rfl⟩ | ⟨b, -, rfl⟩ := request_eq_next h
    · exact intcConsistent_of_intc_eq hs rfl
    · exact intcConsistent_intcDrive hs _ _ _
  | reset => cases h; exact intcConsistent_of_reset fun b => by cases b <;> rfl
  | refuse r => cases h
  | read r => cases h; exact intcConsistent_of_intc_eq hs (record_intc r s)
  | drop => cases h; exact hs
  | emit d => cases h; exact intcConsistent_of_intc_eq hs rfl
  | logCgu a => cases h; exact intcConsistent_of_intc_eq hs rfl
  | intcMask op b v => cases h; rw [intcMaskWrite_eq]; exact intcConsistent_setBank_bankOf hs _ _ _
  | channel c f v =>
    cases h
    exact intcConsistent_linesRecompute
      (intcConsistent_of_intc_eq hs (by simp only [chanRecompute_intc, setChan_intc])) _
  | word w op v =>
    cases h
    exact intcConsistent_linesRecompute
      (intcConsistent_of_intc_eq hs (by simp only [recomputeAll_intc, setWord_intc])) _

/-! The global words -/

theorem linesRecompute_word (P : Params) (s : State) (w : GlobalWord) :
    (linesRecompute P s).word w = s.word w := by
  cases w <;> rfl

theorem chanRecompute_word (c : Chan) (s : State) (w : GlobalWord) (hw : w ≠ .flag) :
    (chanRecompute c s).word w = s.word w := by
  cases w with
  | flag => exact absurd rfl hw
  | enable | stop | mask => rfl

theorem recomputeList_word (cs : List Chan) (s : State) (w : GlobalWord) (hw : w ≠ .flag) :
    (recomputeList cs s).word w = s.word w := by
  induction cs generalizing s with
  | nil => rfl
  | cons c cs ih => rw [recomputeList, ih, chanRecompute_word c s w hw]

theorem setChan_word (s : State) (c : Chan) (r : Channel) (w : GlobalWord) :
    (s.setChan c r).word w = s.word w := by
  cases w <;> rfl

theorem countTick_word (P : Params) (c : Chan) (s : State) (w : GlobalWord) :
    (countTick P c s).word w = s.word w := by
  unfold countTick
  split
  · exact setChan_word _ _ _ _
  · rfl

/-- A global word other than the flags is written by its own writes and by RESET alone. -/
theorem run_word {e : Effect} {s t : State} (h : e.run s = .next t) (w : GlobalWord) (hw : w ≠ .flag)
    (hr : e ≠ .reset) (he : ∀ op v, e ≠ .word w op v) : t.word w = s.word w := by
  cases e with
  | tick c =>
    cases h
    rw [tick, rearm, setChan_word, linesRecompute_word, chanRecompute_word c _ w hw, countTick_word]
  | request lv idx => obtain ⟨-, rfl⟩ | ⟨b, -, rfl⟩ := request_eq_next h <;> cases w <;> rfl
  | reset => exact absurd rfl hr
  | refuse r => cases h
  | read r => cases h; cases r <;> cases w <;> rfl
  | drop => cases h; rfl
  | emit d => cases h; cases w <;> rfl
  | logCgu a => cases h; cases w <;> rfl
  | intcMask op b v => cases h; cases w <;> rfl
  | channel c f v =>
    cases h
    rw [channelWrite, linesRecompute_word, chanRecompute_word c _ w hw, setChan_word]
  | word x op v =>
    cases h
    have hx : w ≠ x := fun e => he op v (e ▸ rfl)
    rw [globalWrite, linesRecompute_word, recomputeAll, recomputeList_word _ _ w hw, word_setWord_ne s x w _ hx]

/-! The channels -/

/-- `r'` is `r`, but for a count put to 0 where it was at or past `full` (43_tcu_tick.md R180) and for the
tick's handle. -/
structure Reloaded (r r' : Channel) : Prop where
  full : r'.full = r.full
  half : r'.half = r.half
  ctrl : r'.ctrl = r.ctrl
  count : r'.count = r.count ∨ (r'.count = 0#32 ∧ r.full ≤ r.count)

theorem Reloaded.refl (r : Channel) : Reloaded r r := ⟨rfl, rfl, rfl, .inl rfl⟩

theorem Reloaded.trans {a b c : Channel} (hab : Reloaded a b) (hbc : Reloaded b c) : Reloaded a c where
  full := hbc.full.trans hab.full
  half := hbc.half.trans hab.half
  ctrl := hbc.ctrl.trans hab.ctrl
  count := by
    have hf := hab.full
    obtain hb | ⟨hb, hle⟩ := hab.count
    · rw [← hb, ← hf]; exact hbc.count
    · exact .inr ⟨hbc.count.elim (·.trans hb) (·.1), hle⟩

theorem reloaded_autoReload (r : Channel) : Reloaded r (autoReload r) := by
  unfold autoReload
  split
  · next h => exact ⟨rfl, rfl, rfl, .inr ⟨rfl, h⟩⟩
  · exact .refl r

theorem reloaded_chanRecompute (c d : Chan) (s : State) :
    Reloaded (s.chan d) ((chanRecompute c s).chan d) := by
  have written : (chanRecompute c s).chan d = (s.setChan c (autoReload (s.chan c))).chan d :=
    chan_congr _ _ d rfl
  rw [written]
  by_cases e : d = c
  · subst e; rw [chan_setChan_same]; exact reloaded_autoReload _
  · rw [chan_setChan_ne s c d _ e]; exact .refl _

theorem reloaded_recomputeList (cs : List Chan) (d : Chan) (s : State) :
    Reloaded (s.chan d) ((recomputeList cs s).chan d) := by
  induction cs generalizing s with
  | nil => exact .refl _
  | cons c cs ih => exact (reloaded_chanRecompute c d s).trans (ih _)

theorem reloaded_rearm (c d : Chan) (s : State) : Reloaded (s.chan d) ((rearm c s).chan d) := by
  unfold rearm
  by_cases e : d = c
  · subst e; rw [chan_setChan_same]; exact ⟨rfl, rfl, rfl, .inl rfl⟩
  · rw [chan_setChan_ne s c d _ e]; exact .refl _

/-- Channel `c`'s record as an effect writes it, before any recompute. -/
def Effect.written (e : Effect) (c : Chan) (s : State) : Channel :=
  match e with
  | .tick d => (countTick Config.params d s).chan c
  | .channel d f v => (s.setChan d (f.write v (s.chan d))).chan c
  | .reset => (s.chan c).clear
  | _ => s.chan c

/-- A step leaves a channel's record as its effect wrote it, but for a reload. -/
theorem reloaded_written {e : Effect} {s t : State} (h : e.run s = .next t) (c : Chan) :
    Reloaded (e.written c s) (t.chan c) := by
  have same {a b : State} (hch : a.ch = b.ch) : Reloaded (b.chan c) (a.chan c) :=
    chan_congr a b c hch ▸ .refl _
  cases e with
  | tick d =>
    cases h
    have lines := same (linesRecompute_ch Config.params (chanRecompute d (countTick Config.params d s)))
    exact ((reloaded_chanRecompute d c _).trans lines).trans (reloaded_rearm d c _)
  | request lv idx => obtain ⟨-, rfl⟩ | ⟨b, -, rfl⟩ := request_eq_next h <;> exact same rfl
  | reset =>
    cases h
    have cleared : (resetRegisters s).chan c = (s.chan c).clear := by cases c <;> rfl
    rw [cleared]; exact .refl _
  | refuse r => cases h
  | read r => cases h; cases r <;> exact same rfl
  | drop => cases h; exact same rfl
  | emit d => cases h; exact same rfl
  | logCgu a => cases h; exact same rfl
  | intcMask op b v => cases h; exact same rfl
  | channel d f v =>
    cases h
    exact (reloaded_chanRecompute d c _).trans (same (linesRecompute_ch _ _))
  | word w op v =>
    cases h
    have start := same (setWord_ch s w (op.apply (s.word w) v))
    exact (start.trans (reloaded_recomputeList _ c _)).trans (same (linesRecompute_ch _ _))

/-- A register of a channel's record. -/
def ChanField.get (f : ChanField) (r : Channel) : Word :=
  match f with
  | .full => r.full
  | .half => r.half
  | .count => r.count
  | .ctrl => r.ctrl

theorem ChanField.get_write_ne (f g : ChanField) (v : Word) (r : Channel) (h : g ≠ f) :
    f.get (g.write v r) = f.get r := by
  cases g with
  | full => cases f with
    | full => exact absurd rfl h
    | _ => rfl
  | half => cases f with
    | half => exact absurd rfl h
    | _ => rfl
  | count => cases f with
    | count => exact absurd rfl h
    | _ => rfl
  | ctrl => cases f with
    | ctrl => exact absurd rfl h
    | _ => rfl

/-- The count's advance writes the count of its own channel, and only where that is enabled. -/
theorem get_countTick (P : Params) (c d : Chan) (s : State) (f : ChanField)
    (h : ¬ (f = .count ∧ d = c ∧ isEnabled c s.enable = true)) :
    f.get ((countTick P d s).chan c) = f.get (s.chan c) := by
  unfold countTick
  split
  · next he =>
    by_cases e : c = d
    · subst e
      rw [chan_setChan_same]
      cases f with
      | count => exact absurd ⟨rfl, rfl, he⟩ h
      | full | half | ctrl => rfl
    · rw [chan_setChan_ne s d c _ e]
  · rfl

/-- A channel's register is written by its own write and by RESET alone, and its count by an enabled tick. -/
theorem get_written {e : Effect} (c : Chan) (s : State) (f : ChanField) (hr : e ≠ .reset)
    (hw : ∀ v, e ≠ .channel c f v)
    (ht : ¬ (f = .count ∧ e = .tick c ∧ isEnabled c s.enable = true)) :
    f.get (e.written c s) = f.get (s.chan c) := by
  cases e with
  | tick d =>
    exact get_countTick _ c d s f fun ⟨hf, hd, he⟩ => ht ⟨hf, congrArg _ hd, he⟩
  | channel d g v =>
    by_cases hd : c = d
    · subst hd
      simp only [Effect.written, chan_setChan_same]
      exact ChanField.get_write_ne f g v _ fun hg => hw v (hg ▸ rfl)
    · simp only [Effect.written, chan_setChan_ne s d c _ hd]
  | reset => exact absurd rfl hr
  | _ => rfl

end Sys2Proof.Proofs
end

section
/-! SUPPORT. The statements about the banks and about who writes which register. -/
namespace Sys2Proof.Proofs
open Sys2Proof.Machine Sys2Proof.Safety

/-- The first half of R26, of one bank. -/
def PendingFollows (r : IntcBank) : Prop := r.pending = r.source &&& ~~~r.mask

/-- A mask write establishes it in its bank, whatever the bank was before. -/
theorem pendingFollows_intcMaskWrite (op : BitsetOp) (b : Bank) (v : Word) (s : State) :
    PendingFollows ((intcMaskWrite op b v s).bank b) := by
  rw [intcMaskWrite_eq, bank_setBank_same]; rfl

/-- So does a request in the bank's range. -/
theorem pendingFollows_intcDrive (b : Bank) (i : Fin 32) (lv : Bool) (s : State) :
    PendingFollows ((intcDrive b i lv s).bank b) := by
  rw [intcDrive_eq, bank_setBank_same]; rfl

/-- Every step keeps R26. -/
theorem intcConsistent_step {s t : State} (hs : IntcConsistent s) (h : step s = .next t) :
    IntcConsistent t := by
  unfold Machine.step fetch at h
  cases hin : s.inputs with
  | nil => rw [hin] at h; cases h; exact hs
  | cons op rest =>
    rw [hin] at h
    have h' : exec (decode op) { s with inputs := rest } = .next t := h
    rw [exec_eq_run] at h'
    have ht : IntcConsistent { s with inputs := rest } := intcConsistent_of_intc_eq hs rfl
    exact intcConsistent_run ht h'

/-- Settles O34: every write of a bank is a recomputed bank, so R26 holds of it whatever it was before. -/
theorem pendingIsSourceAndNotMask : Obligations.PendingIsSourceAndNotMask := by
  refine ⟨intcConsistent_of_reset fun b => by cases b <;> rfl, fun _ _ => intcConsistent_step, ?_, ?_⟩
  · rintro s t b v (h | h | h) <;> cases h <;> exact pendingFollows_intcMaskWrite _ _ _ _
  · intro s t lv idx b hb h
    have hbank : reqBank idx = some b := by rw [reqBank, hb, Bank.ofIndex_index]
    obtain ⟨hnone, -⟩ | ⟨d, hd, rfl⟩ := request_eq_next h
    · rw [hbank] at hnone; cases hnone
    · rw [hbank] at hd; cases hd; exact pendingFollows_intcDrive _ _ _ _

/-- Settles O48: `run_word` for each of the three words. -/
theorem globalWordsHaveTheirOwnWriters : Obligations.GlobalWordsHaveTheirOwnWriters := by
  intro i s t h hreset
  rw [exec_eq_run] at h
  have hr : effect i ≠ .reset := fun e => hreset (eq_reset_of_effect i e)
  have kept (w : GlobalWord) (hw : w ≠ .flag) (hi : ∀ op v, i ≠ wordWriter w op v) :
      t.word w = s.word w :=
    run_word h w hw hr fun op v e => hi op v (eq_wordWriter_of_effect i w op v e)
  refine ⟨fun hi => kept .enable (by decide) ?_, fun hi => kept .stop (by decide) ?_,
    fun hi => kept .mask (by decide) ?_⟩ <;>
  · intro op v
    obtain ⟨whole, set, clr⟩ := hi v
    cases op with
    | whole => exact whole
    | set => exact set
    | clr => exact clr

/-- Settles O49: what the effect writes (`get_written`), then the reload (`reloaded_written`). -/
theorem channelRegistersHaveTheirOwnWriters : Obligations.ChannelRegistersHaveTheirOwnWriters := by
  intro i s t c h hreset
  rw [exec_eq_run] at h
  have hr : effect i ≠ .reset := fun e => hreset (eq_reset_of_effect i e)
  have settled := reloaded_written h c
  have kept (f : ChanField) (hf : ∀ v, i ≠ channelWriter c f v)
      (ht : ¬ (f = .count ∧ effect i = .tick c ∧ isEnabled c s.enable = true)) :
      f.get ((effect i).written c s) = f.get (s.chan c) :=
    get_written c s f hr (fun v e => hf v (eq_channelWriter_of_effect i c f v e)) ht
  refine ⟨fun hi => settled.full.trans (kept .full hi (by simp)),
    fun hi => settled.half.trans (kept .half hi (by simp)),
    fun hi => settled.ctrl.trans (kept .ctrl hi (by simp)), fun hi htick => ?_⟩
  have counted : ((effect i).written c s).count = (s.chan c).count :=
    kept .count hi fun ⟨_, e, en⟩ => htick ⟨eq_tickAt_of_effect i c e, en⟩
  have hfull := settled.full
  rw [hfull, ← counted]
  exact settled.count

end Sys2Proof.Proofs
end

section
/-! SUPPORT. The statements about parts of the state that no operation reads. Each is a relation between two
states: one structure says what a relation must keep of the shared operations, and every effect keeps it. -/
namespace Sys2Proof.Proofs
open Sys2Proof.Machine Sys2Proof.Safety

/-- Two outcomes that stop the same way, their next states related. -/
inductive Related (R : State → State → Prop) :
    Host.Outcome State Fault Refusal → Host.Outcome State Fault Refusal → Prop
  | next {s t : State} (h : R s t) : Related R (.next s) (.next t)
  | refused (r : Refusal) : Related R (.refused r) (.refused r)

/-- Next states that `f` takes to the same state. -/
theorem Related.mapNext_eq {R : State → State → Prop} {f : State → State}
    (hf : ∀ {s t}, R s t → f s = f t) {o p : Host.Outcome State Fault Refusal}
    (h : Related R o p) : mapNext f o = mapNext f p := by
  cases h with
  | next h => exact congrArg Host.Outcome.next (hf h)
  | refused r => rfl

/-- Next states of which `f` takes the one to the other. -/
theorem Related.eq_mapNext {f : State → State} {o p : Host.Outcome State Fault Refusal}
    (h : Related (fun s t => t = f s) o p) : p = mapNext f o := by
  cases h with
  | next h => exact congrArg Host.Outcome.next h
  | refused r => rfl

/-- Related states differ only in what no shared operation reads: they agree on the banks, the counts and
the words that the recomputes read, and the writes of the shared operations keep them related. -/
structure Unobserved (R : State → State → Prop) : Prop where
  bank : ∀ {s t}, R s t → ∀ b, s.bank b = t.bank b
  count : ∀ {s t}, R s t → ∀ c, (s.chan c).count = (t.chan c).count
  enable : ∀ {s t}, R s t → s.enable = t.enable
  flag : ∀ {s t}, R s t → s.flag = t.flag
  mask : ∀ {s t}, R s t → s.mask = t.mask
  setBank : ∀ {s t}, R s t → ∀ b r, R (s.setBank b r) (t.setBank b r)
  setLine : ∀ {s t}, R s t → ∀ k v, R (s.setLine k v) (t.setLine k v)
  emit : ∀ {s t}, R s t → ∀ d, R (s.emit d) (t.emit d)
  logCgu : ∀ {s t}, R s t → ∀ a, R (s.logCgu a) (t.logCgu a)
  reset : ∀ {s t}, R s t → R (resetRegisters s) (resetRegisters t)
  rearm : ∀ {s t}, R s t → ∀ c, R (rearm c s) (rearm c t)
  chanRecompute : ∀ {s t}, R s t → ∀ c, R (chanRecompute c s) (chanRecompute c t)
  writeField : ∀ {s t}, R s t → ∀ c (f : ChanField) v,
    R (s.setChan c (f.write v (s.chan c))) (t.setChan c (f.write v (t.chan c)))
  writeWord : ∀ {s t}, R s t → ∀ w (op : BitsetOp) v,
    R (s.setWord w (op.apply (s.word w) v)) (t.setWord w (op.apply (t.word w) v))

namespace Unobserved

variable {R : State → State → Prop} {s t : State}

theorem intcDrive (hR : Unobserved R) (h : R s t) (b : Bank) (i : Fin 32) (lv : Bool) :
    R (intcDrive b i lv s) (intcDrive b i lv t) := by
  rw [intcDrive_eq, intcDrive_eq, hR.bank h]; exact hR.setBank h _ _

theorem intcMaskWrite (hR : Unobserved R) (h : R s t) (op : BitsetOp) (b : Bank) (v : Word) :
    R (intcMaskWrite op b v s) (intcMaskWrite op b v t) := by
  rw [intcMaskWrite_eq, intcMaskWrite_eq, hR.bank h]; exact hR.setBank h _ _

theorem linesRecompute (hR : Unobserved R) (h : R s t) (P : Params) :
    R (linesRecompute P s) (linesRecompute P t) := by
  have drive (k : Line) {s t : State} (h : R s t) : R (driveLine P k s) (driveLine P k t) := by
    rw [driveLine, driveLine, hR.flag h, hR.mask h]
    exact hR.intcDrive (hR.setLine h _ _) _ _ _
  exact drive .l2 (drive .l1 (drive .l0 h))

/-- The count's advance is a write of the count. -/
theorem countTick (hR : Unobserved R) (h : R s t) (P : Params) (c : Chan) :
    R (countTick P c s) (countTick P c t) := by
  unfold Machine.countTick
  rw [hR.enable h]
  split
  · have written := hR.writeField h c .count ((s.chan c).count + P.tickIncrement)
    unfold ChanField.write at written
    rw [← hR.count h]
    exact written
  · exact h

theorem recomputeList (hR : Unobserved R) (h : R s t) (cs : List Chan) :
    R (recomputeList cs s) (recomputeList cs t) := by
  induction cs generalizing s t with
  | nil => exact h
  | cons c cs ih => exact ih (hR.chanRecompute h c)

theorem record (hR : Unobserved R) (h : R s t) (r : Reading) : R (r.record s) (r.record t) := by
  cases r with
  | diagnosed d sz => exact hR.emit h _
  | cgu sz off => exact hR.logCgu h _
  | _ => exact h

/-- A read other than that of a global word answers the same in related states. -/
theorem value_eq (hR : Unobserved R) (h : R s t) (r : Reading)
    (hw : ∀ w, r = .word w → s.word w = t.word w) : r.value s = r.value t := by
  cases r with
  | source b | intcMask b | pending b => simp only [Reading.value, hR.bank h]
  | word w => simp only [Reading.value, hw w rfl]
  | count c => simp only [Reading.value, hR.count h]
  | diagnosed d sz | cgu sz off => rfl

/-- Every effect other than a read keeps states related. -/
theorem run (hR : Unobserved R) (h : R s t) (e : Effect) (he : ∀ r, e ≠ .read r) :
    Related R (e.run s) (e.run t) := by
  cases e with
  | tick c =>
    exact .next (hR.rearm (hR.linesRecompute (hR.chanRecompute (hR.countTick h _ c) c) _) c)
  | request lv idx =>
    simp only [Effect.run, request]
    split
    · exact .next (hR.emit h _)
    · split
      · exact .refused _
      · exact .next (hR.intcDrive h _ _ _)
  | reset => exact .next (hR.reset h)
  | refuse r => exact .refused r
  | read r => exact absurd rfl (he r)
  | drop => exact .next h
  | emit d => exact .next (hR.emit h d)
  | logCgu a => exact .next (hR.logCgu h a)
  | intcMask op b v => exact .next (hR.intcMaskWrite h op b v)
  | channel c f v => exact .next (hR.linesRecompute (hR.chanRecompute (hR.writeField h c f v) c) _)
  | word w op v => exact .next (hR.linesRecompute (hR.recomputeList (hR.writeWord h w op v) _) _)

/-- So does a read that answers the same, where the relation says nothing of an earlier answer. -/
theorem run_read (hR : Unobserved R) (respond : ∀ {s t}, R s t → ∀ v, R (s.respond v) (t.respond v))
    (h : R s t) (r : Reading) (hv : r.value s = r.value t) :
    Related R ((Effect.read r).run s) ((Effect.read r).run t) := by
  simp only [Effect.run, hv]
  exact .next (respond (hR.record h r) _)

/-- Every operation keeps states related in which the global word that it may read is the same. -/
theorem exec (hR : Unobserved R) (respond : ∀ {s t}, R s t → ∀ v, R (s.respond v) (t.respond v))
    (h : R s t) (i : Instr) (hw : ∀ w, effect i = .read (.word w) → s.word w = t.word w) :
    Related R (exec i s) (exec i t) := by
  rw [exec_eq_run, exec_eq_run]
  by_cases he : ∃ r, effect i = .read r
  · obtain ⟨r, hr⟩ := he
    rw [hr] at hw ⊢
    exact hR.run_read respond h r (hR.value_eq h r fun w e => hw w (e ▸ rfl))
  · exact hR.run h _ fun r hr => he ⟨r, hr⟩

end Unobserved

/-! The stop word -/

/-- Equal but for the stop word. -/
def AgreeButStop (s t : State) : Prop := ∃ v, t = { s with stop := v }

theorem agreeButStop_unobserved : Unobserved AgreeButStop where
  bank := by rintro s _ ⟨v, rfl⟩ b; cases b <;> rfl
  count := by rintro s _ ⟨v, rfl⟩ c; cases c <;> rfl
  enable := by rintro s _ ⟨v, rfl⟩; rfl
  flag := by rintro s _ ⟨v, rfl⟩; rfl
  mask := by rintro s _ ⟨v, rfl⟩; rfl
  setBank := by rintro s _ ⟨v, rfl⟩ b r; exact ⟨v, rfl⟩
  setLine := by rintro s _ ⟨v, rfl⟩ k l; exact ⟨v, rfl⟩
  emit := by rintro s _ ⟨v, rfl⟩ d; exact ⟨v, rfl⟩
  logCgu := by rintro s _ ⟨v, rfl⟩ a; exact ⟨v, rfl⟩
  reset := by rintro s _ ⟨v, rfl⟩; exact ⟨_, rfl⟩
  rearm := by rintro s _ ⟨v, rfl⟩ c; exact ⟨v, rfl⟩
  chanRecompute := by rintro s _ ⟨v, rfl⟩ c; exact ⟨v, rfl⟩
  writeField := by rintro s _ ⟨v, rfl⟩ c f x; exact ⟨v, rfl⟩
  writeWord := by
    rintro s _ ⟨v, rfl⟩ w op x
    cases w with
    | stop => exact ⟨_, rfl⟩
    | enable | flag | mask => exact ⟨v, rfl⟩

/-- Settles O51: `eraseStop s` agrees with `s` but for the stop word. -/
theorem stopGatesNothing : Obligations.StopGatesNothing := by
  intro i s hi
  have erased : AgreeButStop s (eraseStop s) := ⟨0#32, rfl⟩
  refine (agreeButStop_unobserved.exec ?_ erased i ?_).mapNext_eq ?_
  · rintro s _ ⟨v, rfl⟩ x; exact ⟨v, rfl⟩
  · intro w hw
    cases w with
    | stop => exact absurd (eq_rdTcuStop_of_effect i hw) hi
    | enable | flag | mask => rfl
  · rintro s _ ⟨v, rfl⟩; rfl

/-! The logs and the last read result -/

/-- The state with older records put before those of its two logs and, where one is given, another last read
result. -/
def overlay (ds : List Diag) (gs : List CguAccess) (r : Option RData) (s : State) : State :=
  { afterLogs ds gs s with rdata := r.getD s.rdata }

theorem overlay_unobserved (ds : List Diag) (gs : List CguAccess) (r : Option RData) :
    Unobserved fun s t => t = overlay ds gs r s where
  bank := by rintro s _ rfl b; cases b <;> rfl
  count := by rintro s _ rfl c; cases c <;> rfl
  enable := by rintro s _ rfl; rfl
  flag := by rintro s _ rfl; rfl
  mask := by rintro s _ rfl; rfl
  setBank := by rintro s _ rfl b r; rfl
  setLine := by rintro s _ rfl k l; rfl
  emit := by rintro s _ rfl d; simp only [State.emit, overlay, afterLogs, List.append_assoc]
  logCgu := by rintro s _ rfl a; simp only [State.logCgu, overlay, afterLogs, List.append_assoc]
  reset := by rintro s _ rfl; rfl
  rearm := by rintro s _ rfl c; rfl
  chanRecompute := by rintro s _ rfl c; rfl
  writeField := by rintro s _ rfl c f x; rfl
  writeWord := by rintro s _ rfl w op x; cases w <;> rfl

/-- Records put before those of the logs stay there, and change nothing else. -/
theorem exec_afterLogs (i : Instr) (s : State) (ds : List Diag) (gs : List CguAccess) :
    exec i (afterLogs ds gs s) = mapNext (afterLogs ds gs) (exec i s) := by
  refine ((overlay_unobserved ds gs none).exec ?_ rfl i fun w _ => ?_).eq_mapNext
  · rintro s _ rfl v; rfl
  · cases w <;> rfl

/-- The outcome up to the logs is that from empty logs: the old records are put before those. -/
theorem exec_eraseLogs (i : Instr) (s : State) :
    mapNext eraseLogs (exec i s) = mapNext eraseLogs (exec i (eraseLogs s)) := by
  have restored : afterLogs s.diags s.cguLog (eraseLogs s) = s := by
    simp only [afterLogs, eraseLogs, List.append_nil]
  calc mapNext eraseLogs (exec i s)
      = mapNext eraseLogs (exec i (afterLogs s.diags s.cguLog (eraseLogs s))) := by rw [restored]
    _ = mapNext eraseLogs (mapNext (afterLogs s.diags s.cguLog) (exec i (eraseLogs s))) := by
      rw [exec_afterLogs]
    _ = mapNext eraseLogs (exec i (eraseLogs s)) := by cases exec i (eraseLogs s) <;> rfl

/-- A read overwrites the last read result, and every other effect keeps it. -/
theorem run_withRData (e : Effect) (s : State) (v : RData) :
    e.run { s with rdata := v } =
      if e.isRead = true then e.run s else mapNext (fun t => { t with rdata := v }) (e.run s) := by
  have hR := overlay_unobserved [] [] (some v)
  have base : { s with rdata := v } = overlay [] [] (some v) s := rfl
  cases e with
  | read r =>
    have answer : r.value { s with rdata := v } = r.value s :=
      (hR.value_eq base r fun w _ => by cases w <;> rfl).symm
    have logged : r.record { s with rdata := v } = { r.record s with rdata := v } := hR.record base r
    simp only [Effect.run, answer, logged]
    rfl
  | _ => exact (hR.run base _ (by simp)).eq_mapNext

/-- Settles O52. The refused operations are alike under both branches of its last clause. -/
theorem logsAreNeverRead : Obligations.LogsAreNeverRead := by
  intro i s
  refine ⟨exec_eraseLogs i s, fun ds gs => exec_afterLogs i s ds gs, fun v => ?_⟩
  rw [exec_eq_run, exec_eq_run, run_withRData]
  by_cases hrefuse : ∃ r, effect i = .refuse r
  · obtain ⟨r, hr⟩ := hrefuse
    simp only [hr, Effect.run, mapNext, ite_self]
  · rw [isBusRead_eq_isRead i fun r hr => hrefuse ⟨r, hr⟩]

/-! The ctrl registers and the OS timer's half register -/

/-- A channel's record with the registers that `eraseUnread` erases put to 0. -/
def hideUnread (c : Chan) (r : Channel) : Channel :=
  { r with ctrl := 0#32, half := if c = .ost then 0#32 else r.half }

@[simp] theorem eraseUnread_chan (s : State) (c : Chan) :
    (eraseUnread s).chan c = hideUnread c (s.chan c) := by
  cases c <;> rfl

theorem eraseUnread_setChan (s : State) (c : Chan) (r : Channel) :
    eraseUnread (s.setChan c r) = (eraseUnread s).setChan c (hideUnread c r) := by
  cases c <;> rfl

theorem eraseUnread_setWord (s : State) (w : GlobalWord) (v : Word) :
    eraseUnread (s.setWord w v) = (eraseUnread s).setWord w v := by
  cases w <;> rfl

theorem eraseUnread_word (s : State) (w : GlobalWord) : (eraseUnread s).word w = s.word w := by
  cases w <;> rfl

theorem eraseUnread_idem (s : State) : eraseUnread (eraseUnread s) = eraseUnread s := rfl

theorem hideUnread_autoReload (c : Chan) (r : Channel) :
    hideUnread c (autoReload r) = autoReload (hideUnread c r) :=
  apply_ite (hideUnread c) _ _ _

/-- The half flag does not see what is hidden: the OS timer has none. -/
theorem halfFlag_hideUnread (c : Chan) (r : Channel) : halfFlag c (hideUnread c r) = halfFlag c r := by
  cases c with
  | ost => simp only [halfFlag, halfBit, ite_self]
  | _ => rfl

theorem eraseUnread_chanRecompute (c : Chan) (s : State) :
    eraseUnread (chanRecompute c s) = chanRecompute c (eraseUnread s) := by
  have asWrites (u : State) : chanRecompute c u =
      (u.setChan c (autoReload (u.chan c))).setWord .flag
        (u.flag ||| halfFlag c (u.chan c) ||| overFlag c (u.chan c)) := rfl
  rw [asWrites, asWrites, eraseUnread_setWord, eraseUnread_setChan, hideUnread_autoReload, eraseUnread_chan,
    halfFlag_hideUnread]
  rfl

/-- A register's write, up to what is hidden, sees nothing hidden. -/
theorem hideUnread_write (c : Chan) (f : ChanField) (v : Word) (r : Channel) :
    hideUnread c (f.write v r) = hideUnread c (f.write v (hideUnread c r)) := by
  cases f with
  | half => rfl
  | full | count | ctrl => simp only [hideUnread, ChanField.write]; split <;> rfl

/-- Equal but for the ctrl registers and the OS timer's half register. -/
def AgreeButUnread (s t : State) : Prop := eraseUnread s = eraseUnread t

/-- What commutes with the erasure keeps states equal up to it. -/
theorem AgreeButUnread.of_commute {s t : State} (h : AgreeButUnread s t) (op : State → State)
    (hop : ∀ u, eraseUnread (op u) = op (eraseUnread u)) : AgreeButUnread (op s) (op t) := by
  unfold AgreeButUnread at h ⊢
  rw [hop, hop, h]

theorem agreeButUnread_unobserved : Unobserved AgreeButUnread where
  bank h b := by
    have e (u : State) : (eraseUnread u).bank b = u.bank b := by cases b <;> rfl
    rw [← e, h, e]
  count h c := by
    have e (u : State) : ((eraseUnread u).chan c).count = (u.chan c).count := by cases c <;> rfl
    rw [← e, h, e]
  enable h := (congrArg State.enable h :)
  flag h := (congrArg State.flag h :)
  mask h := (congrArg State.mask h :)
  setBank h b r := h.of_commute (·.setBank b r) fun _ => rfl
  setLine h k v := h.of_commute (·.setLine k v) fun _ => rfl
  emit h d := h.of_commute (·.emit d) fun _ => rfl
  logCgu h a := h.of_commute (·.logCgu a) fun _ => rfl
  reset h := h.of_commute _ fun _ => rfl
  rearm h c := h.of_commute _ fun u => by
    unfold rearm
    rw [eraseUnread_setChan, eraseUnread_chan]
    rfl
  chanRecompute h c := h.of_commute _ (eraseUnread_chanRecompute c)
  writeField h c f v := by
    unfold AgreeButUnread at h ⊢
    rw [eraseUnread_setChan, eraseUnread_setChan, hideUnread_write, hideUnread_write c f v (State.chan _ c),
      ← eraseUnread_chan, ← eraseUnread_chan, h]
  writeWord h w op v := by
    refine h.of_commute (fun u => u.setWord w (op.apply (u.word w) v)) fun u => ?_
    rw [eraseUnread_setWord, eraseUnread_word]

/-- Settles O50: `eraseUnread s` agrees with `s` but for those registers. -/
theorem ctrlAndOstHalfAreNeverRead : Obligations.CtrlAndOstHalfAreNeverRead := by
  intro i s
  have erased : AgreeButUnread s (eraseUnread s) := (eraseUnread_idem s).symm
  refine (agreeButUnread_unobserved.exec ?_ erased i fun w _ => (eraseUnread_word s w).symm).mapNext_eq id
  intro s t h v
  exact h.of_commute (·.respond v) fun _ => rfl

end Sys2Proof.Proofs
end

section
/-! SUPPORT. The statements of 20_memory.md: which addresses reach a unit, how an operation arrives, what the
CGU and the unsupported accesses do, and that reads and repeated whole-word writes change nothing. -/
namespace Sys2Proof.Proofs
open Sys2Proof.Machine Sys2Proof.Safety

/-! The windows -/

/-- A unit and offset in one of the three windows (20_memory.md R53). -/
def InWindow (unit : BitVec 4) (off : BitVec 12) : Prop :=
  (unit = 0#4 ∧ off.toNat < 0x100) ∨ unit = 1#4 ∨ (unit = 2#4 ∧ off.toNat < 0x200)

/-- A physical address in one of the three windows (R51). -/
def AddressInWindow (n : Nat) : Prop :=
  (0x10000000 ≤ n ∧ n < 0x10000100) ∨ (0x10001000 ≤ n ∧ n < 0x10002000) ∨
    (0x10002000 ≤ n ∧ n < 0x10002200)

/-- The two say the same of an address and its fields. -/
theorem addressInWindow_iff {n : Nat} {unit : BitVec 4} {off : BitVec 12} (hu : unit.toNat ≤ 2)
    (hn : n = 0x10000000 + 0x1000 * unit.toNat + off.toNat) :
    AddressInWindow n ↔ InWindow unit off := by
  have hoff := off.isLt
  simp only [AddressInWindow, InWindow, ← BitVec.toNat_inj, BitVec.toNat_ofNat]
  omega

theorem unitOfAddress_isSome_iff (pa : BitVec 32) :
    (unitOfAddress pa).isSome = true ↔ AddressInWindow pa.toNat := by
  cases h : unitOfAddress pa with
  | none =>
    have out : ¬ AddressInWindow pa.toNat := unitOfAddress_eq_none pa h
    simp only [Option.isSome_none, Bool.false_eq_true, out]
  | some p =>
    obtain ⟨hpa, hp⟩ := unitOfAddress_eq_some pa p h
    have inside : InWindow p.1 p.2 := hp
    have hu : p.1.toNat ≤ 2 := by obtain ⟨e, -⟩ | e | ⟨e, -⟩ := hp <;> rw [e] <;> decide
    simp only [Option.isSome_some, (addressInWindow_iff hu hpa).mpr inside]

/-- An address in a window has a label, which carries its unit and offset. -/
theorem addressFields_of_unitOfAddress (pa : BitVec 32) (p : BitVec 4 × BitVec 12)
    (h : unitOfAddress pa = some p) : addressFields pa = some p := by
  obtain ⟨hpa, -⟩ := unitOfAddress_eq_some pa p h
  have inside : AddressInWindow pa.toNat := (unitOfAddress_isSome_iff pa).mp (h ▸ rfl)
  cases hf : addressFields pa with
  | none =>
    have out := addressFields_eq_none pa hf
    unfold AddressInWindow at inside
    omega
  | some q =>
    obtain ⟨hqa, -⟩ := addressFields_eq_some pa q hf
    have hp := p.2.isLt
    have hq := q.2.isLt
    have unit : q.1 = p.1 := BitVec.eq_of_toNat_eq (by omega)
    have off : q.2 = p.2 := BitVec.eq_of_toNat_eq (by omega)
    rw [Prod.ext unit off]

/-- Whether an operation is an access to no unit of the block (R64). -/
def reachesNoUnit : Instr → Bool
  | .notThisBlock _ _ _ _ => true
  | _ => false

theorem reachesNoUnit_iff (i : Instr) :
    reachesNoUnit i = true ↔ ∃ a z unit off, i = .notThisBlock a z unit off := by
  constructor
  · intro h
    unfold reachesNoUnit at h
    split at h
    · exact ⟨_, _, _, _, rfl⟩
    · cases h
  · rintro ⟨a, z, unit, off, rfl⟩; rfl

theorem reachesNoUnit_decodeIntc (acc : Access) (off : BitVec 12) :
    reachesNoUnit (decodeIntc acc off) = false := by
  unfold decodeIntc
  split
  · rfl
  · unfold decodeIntcReg
    cases acc <;> repeat' split
    all_goals rfl

theorem reachesNoUnit_decodeTcu (acc : Access) (off : BitVec 12) :
    reachesNoUnit (decodeTcu acc off) = false := by
  cases acc with
  | read =>
    simp only [decodeTcu, decodeTcuRead]
    split
    · next g _ => cases g <;> rfl
    · next c _ _ => unfold Instr.rdTcuAt; split_ifs <;> cases c <;> rfl
    · rfl
  | write v =>
    simp only [decodeTcu, decodeTcuWrite]
    split
    · next g _ => cases g <;> rfl
    · next c _ _ => unfold Instr.wrTcuAt; split_ifs <;> cases c <;> rfl
    · rfl

/-- A bus label decodes to an access to no unit exactly outside the windows. -/
theorem reachesNoUnit_decodeBus (acc : Access) (sz : Size) (unit : BitVec 4) (off : BitVec 12) :
    reachesNoUnit (decodeBus acc sz unit off) = true ↔ ¬ InWindow unit off := by
  unfold decodeBus InWindow
  split_ifs with cgu intc reg tcu reg
  · cases acc <;> simp [cgu, reachesNoUnit]
  · simp [intc, reachesNoUnit_decodeIntc]
  · simp [intc, reachesNoUnit]
  · simp [tcu, reachesNoUnit_decodeTcu]
  · simp [tcu, reachesNoUnit]
  · simp only [cgu, intc, tcu, or_self, not_false_iff, iff_true]
    rfl

/-- Settles O6: the label's fields are those of the window (`addressFields_of_unitOfAddress`), and decode
refuses the fields of no window (`reachesNoUnit_decodeBus`). -/
theorem onlyWindowAddressesReachAUnit : Obligations.OnlyWindowAddressesReachAUnit := by
  intro acc sz pa
  refine ⟨unitOfAddress_isSome_iff pa, fun unit off h => ⟨(unitOfAddress_eq_some pa _ h).1, ?_⟩,
    fun op h => ?_⟩
  · simp only [accessOp, addressFields_of_unitOfAddress pa _ h, Option.map_some]
  · obtain ⟨p, hp, rfl⟩ := Option.map_eq_some_iff.mp h
    obtain ⟨hpa, hu⟩ := addressFields_eq_some pa p hp
    rw [← reachesNoUnit_iff, decode_busOp, reachesNoUnit_decodeBus, ← addressInWindow_iff hu hpa,
      ← unitOfAddress_isSome_iff, Option.not_isSome_iff_eq_none]

/-! Arrival of an operation -/

/-- Settles O7: the fetch takes the oldest operation from the list. -/
theorem stepRunsTheDecodedOperation : Obligations.StepRunsTheDecodedOperation := by
  intro s op rest h
  have fetched : fetch s = some (op, { s with inputs := rest }) := by rw [fetch, h]
  rw [step, fetched]

/-! Accesses that reach no register -/

/-- A result of zero bytes is as many as the access is wide. -/
theorem bytes_zero (sz : Size) : (RData.zero sz).bytes = List.replicate sz.bytes 0#8 := by
  cases sz <;> decide

/-- Settles O15: a read is logged and answered with zero bytes, a write is logged. -/
theorem cguAccessesChangeNoBlockState : Obligations.CguAccessesChangeNoBlockState :=
  fun sz off v s => ⟨exec_eq_run (.rdCgu sz off) s, exec_eq_run (.wrCgu sz off v) s, bytes_zero sz⟩

/-- Settles O16: each of the four is a diagnosed access. -/
theorem unsupportedAccessIsDropped : Obligations.UnsupportedAccessIsDropped :=
  fun v sz off s =>
    ⟨exec_eq_run (.intcUnsupported .read sz off) s, exec_eq_run (.intcUnsupported (.write v) sz off) s,
      exec_eq_run (.tcuUnsupported .read sz off) s, exec_eq_run (.tcuUnsupported (.write v) sz off) s⟩

/-! Reads -/

/-- A read leaves its answer and its log record, and nothing else. -/
theorem respond_record_eq (r : Reading) (s : State) (v : RData) :
    (r.record s).respond v =
      { s with rdata := v, diags := (r.record s).diags, cguLog := (r.record s).cguLog } := by
  cases r <;> rfl

/-- What a read answers does not depend on an earlier answer or on the logs. -/
theorem value_withLogs (r : Reading) (s : State) (v : RData) (ds : List Diag) (gs : List CguAccess) :
    r.value { s with rdata := v, diags := ds, cguLog := gs } = r.value s := by
  cases r with
  | word w => cases w <;> rfl
  | _ => rfl

/-- A bus read that completes has the effect of a read. -/
theorem effect_of_isBusRead {i : Instr} {s t : State} (hi : isBusRead i = true)
    (h : exec i s = .next t) : ∃ r, effect i = .read r := by
  rw [exec_eq_run] at h
  have answers : (effect i).isRead = true := by
    refine (isBusRead_eq_isRead i fun r hr => ?_).symm.trans hi
    rw [hr] at h
    cases h
  unfold Effect.isRead at answers
  split at answers
  · next r hr => exact ⟨r, hr⟩
  · cases answers

/-- Settles O38: the read again answers as before, for it reads nothing that the first has changed. -/
theorem readsChangeNoRegister : Obligations.ReadsChangeNoRegister := by
  intro i s t hi h
  obtain ⟨r, hr⟩ := effect_of_isBusRead hi h
  have run (u : State) : exec i u = .next ((r.record u).respond (r.value u)) := by
    rw [exec_eq_run, hr, Effect.run]
  rw [run] at h
  cases h
  refine ⟨respond_record_eq r s _, _, run _, ?_⟩
  rw [respond_rdata, respond_rdata, respond_record_eq, value_withLogs]

/-! A write of a word that is in place -/

@[simp] theorem setBank_setBank (s : State) (b : Bank) (q r : IntcBank) :
    (s.setBank b q).setBank b r = s.setBank b r := by
  cases b <;> rfl

@[simp] theorem setWord_word (s : State) (w : GlobalWord) : s.setWord w (s.word w) = s := by
  cases w <;> rfl

theorem intcMaskWrite_whole_idem (b : Bank) (v : Word) (s : State) :
    intcMaskWrite .whole b v (intcMaskWrite .whole b v s) = intcMaskWrite .whole b v s := by
  rw [intcMaskWrite_eq, intcMaskWrite_eq, bank_setBank_same, setBank_setBank]
  rfl

/-! The line recompute, twice -/

theorem withBit_same (w : Word) (i : Nat) : withBit w i (w.getLsbD i) = w := by
  refine BitVec.eq_of_getLsbD_eq fun j hj => ?_
  rw [withBit_getLsbD w i j _ hj]
  split
  · next e => rw [e]
  · rfl

/-- The wired inputs have their levels already, so driving them again changes no source bit. -/
theorem withLines_idem (P : Params) (h : P.Ok) (s : State) :
    withLines P (withLines P s) = withLines P s := by
  obtain ⟨w0, w1, w2⟩ := withLines_wires P s h
  generalize ht : withLines P s = t at w0 w1 w2 ⊢
  have lines : (withLines P t).line = t.line := by subst ht; rfl
  have bank : t.intc.b0 = bankOf t.intc.b0.source t.intc.b0.mask := by subst ht; rfl
  have source : (withLines P t).intc.b0 = bankOf (withBit (withBit (withBit t.intc.b0.source
      P.irqSrc0.val t.line.l0) P.irqSrc1.val t.line.l1) P.irqSrc2.val t.line.l2) t.intc.b0.mask := by
    rw [← lines]; rfl
  rw [← w0, withBit_same, ← w1, withBit_same, ← w2, withBit_same, ← bank] at source
  calc withLines P t
      = { t with line := (withLines P t).line, intc := { t.intc with b0 := (withLines P t).intc.b0 } } := rfl
    _ = t := by rw [lines, source]

theorem linesRecompute_idem (P : Params) (h : P.Ok) (s : State) :
    linesRecompute P (linesRecompute P s) = linesRecompute P s := by
  simp only [linesRecompute_eq, withLines_idem P h]

/-! The channel recompute, twice -/

/-- A recompute of channel `c` would change nothing: its count needs no reload and its flags are set. -/
def Settled (c : Chan) (s : State) : Prop :=
  autoReload (s.chan c) = s.chan c ∧
    s.flag ||| halfFlag c (s.chan c) ||| overFlag c (s.chan c) = s.flag

theorem chanRecompute_of_settled {c : Chan} {s : State} (h : Settled c s) : chanRecompute c s = s := by
  obtain ⟨hreload, hflag⟩ := h
  simp only [chanRecompute, hreload, setChan_chan, hflag]

theorem settled_congr {c : Chan} {s t : State} (hch : t.ch = s.ch) (hflag : t.flag = s.flag)
    (h : Settled c s) : Settled c t := by
  unfold Settled
  rw [chan_congr t s c hch, hflag]
  exact h

theorem chan_chanRecompute_same (c : Chan) (s : State) :
    (chanRecompute c s).chan c = autoReload (s.chan c) :=
  (chan_congr _ (s.setChan c (autoReload (s.chan c))) c rfl).trans (chan_setChan_same s c _)

theorem chan_chanRecompute_ne (c d : Chan) (s : State) (h : d ≠ c) :
    (chanRecompute c s).chan d = s.chan d :=
  (chan_congr _ (s.setChan c (autoReload (s.chan c))) d rfl).trans (chan_setChan_ne s c d _ h)

theorem autoReload_idem (r : Channel) : autoReload (autoReload r) = autoReload r := by
  unfold autoReload
  split_ifs <;> rfl

theorem count_autoReload_le (r : Channel) : (autoReload r).count ≤ r.count := by
  unfold autoReload
  split
  · exact Nat.zero_le _
  · exact BitVec.le_refl r.count

/-- A word added under `p` holds the same word added under a stronger condition. -/
theorem or_ite_of_imp {p q : Prop} [Decidable p] [Decidable q] (h : q → p) (w : Word) :
    (if p then w else 0#32) ||| (if q then w else 0#32) = if p then w else 0#32 := by
  by_cases hq : q
  · rw [if_pos hq, if_pos (h hq), BitVec.or_self]
  · rw [if_neg hq, BitVec.or_zero]

/-- A reload adds no flag: what the reloaded count reaches, the count had reached before. -/
theorem halfFlag_autoReload (c : Chan) (r : Channel) :
    halfFlag c r ||| halfFlag c (autoReload r) = halfFlag c r := by
  unfold halfFlag
  rw [(reloaded_autoReload r).half]
  exact or_ite_of_imp (fun reached => BitVec.le_trans reached (count_autoReload_le r)) _

theorem overFlag_autoReload (c : Chan) (r : Channel) :
    overFlag c r ||| overFlag c (autoReload r) = overFlag c r := by
  unfold overFlag
  rw [(reloaded_autoReload r).full]
  exact or_ite_of_imp (fun reached => BitVec.le_trans reached (count_autoReload_le r)) _

theorem chanRecompute_flag (c : Chan) (s : State) :
    (chanRecompute c s).flag = s.flag ||| halfFlag c (s.chan c) ||| overFlag c (s.chan c) := rfl

/-- A channel is settled by its own recompute. -/
theorem settled_chanRecompute_same (c : Chan) (s : State) : Settled c (chanRecompute c s) := by
  unfold Settled
  rw [chan_chanRecompute_same, autoReload_idem, chanRecompute_flag]
  refine ⟨rfl, ?_⟩
  calc s.flag ||| halfFlag c (s.chan c) ||| overFlag c (s.chan c)
        ||| halfFlag c (autoReload (s.chan c)) ||| overFlag c (autoReload (s.chan c))
      = s.flag ||| (halfFlag c (s.chan c) ||| halfFlag c (autoReload (s.chan c)))
        ||| (overFlag c (s.chan c) ||| overFlag c (autoReload (s.chan c))) := by ac_rfl
    _ = s.flag ||| halfFlag c (s.chan c) ||| overFlag c (s.chan c) := by
      rw [halfFlag_autoReload, overFlag_autoReload]

/-- It stays settled through the recompute of any channel. -/
theorem settled_chanRecompute {c : Chan} {s : State} (h : Settled c s) (d : Chan) :
    Settled c (chanRecompute d s) := by
  by_cases e : c = d
  · subst e; exact settled_chanRecompute_same c s
  · obtain ⟨hreload, hflag⟩ := h
    unfold Settled
    rw [chan_chanRecompute_ne d c s e, chanRecompute_flag]
    refine ⟨hreload, ?_⟩
    calc (s.flag ||| halfFlag d (s.chan d) ||| overFlag d (s.chan d)) ||| halfFlag c (s.chan c)
          ||| overFlag c (s.chan c)
        = (s.flag ||| halfFlag c (s.chan c) ||| overFlag c (s.chan c)) ||| halfFlag d (s.chan d)
          ||| overFlag d (s.chan d) := by ac_rfl
      _ = s.flag ||| halfFlag d (s.chan d) ||| overFlag d (s.chan d) := by rw [hflag]

theorem settled_recomputeList {c : Chan} (cs : List Chan) {s : State} (h : Settled c s ∨ c ∈ cs) :
    Settled c (recomputeList cs s) := by
  induction cs generalizing s with
  | nil => exact h.resolve_right List.not_mem_nil
  | cons d cs ih =>
    refine ih ?_
    obtain h | h := h
    · exact .inl (settled_chanRecompute h d)
    · obtain rfl | h := List.mem_cons.mp h
      · exact .inl (settled_chanRecompute_same c s)
      · exact .inr h

theorem recomputeList_of_settled (cs : List Chan) {s : State} (h : ∀ c, Settled c s) :
    recomputeList cs s = s := by
  induction cs with
  | nil => rfl
  | cons c cs ih => rw [recomputeList, chanRecompute_of_settled (h c), ih]

theorem settled_recomputeAll (s : State) (c : Chan) : Settled c (recomputeAll s) :=
  settled_recomputeList Chan.all (.inr (by cases c <;> decide))

/-! A global write, twice -/

/-- A word other than the flags: the second write stores what is stored, and every channel and line is
settled by the first. -/
theorem globalWrite_whole_idem (P : Params) (hP : P.Ok) (w : GlobalWord) (hw : w ≠ .flag) (v : Word)
    (s : State) : globalWrite P w .whole v (globalWrite P w .whole v s) = globalWrite P w .whole v s := by
  have stored : (globalWrite P w .whole v s).word w = v := by
    rw [globalWrite, linesRecompute_word, recomputeAll, recomputeList_word _ _ w hw, word_setWord_same]
    rfl
  have lines : linesRecompute P (globalWrite P w .whole v s) = globalWrite P w .whole v s :=
    linesRecompute_idem P hP _
  have settled (c : Chan) : Settled c (globalWrite P w .whole v s) :=
    settled_congr (linesRecompute_ch P _) (linesRecompute_flag P _) (settled_recomputeAll _ c)
  generalize globalWrite P w .whole v s = t at stored lines settled ⊢
  have again : t.setWord w v = t := by rw [← stored, setWord_word]
  calc globalWrite P w .whole v t
      = linesRecompute P (recomputeAll (t.setWord w v)) := rfl
    _ = t := by rw [again, recomputeAll, recomputeList_of_settled _ settled, lines]

/-- A count that is 0 or below `full` needs no reload. -/
theorem autoReload_of_below {r : Channel} (h : r.count = 0#32 ∨ r.count < r.full) : autoReload r = r := by
  unfold autoReload
  split
  · next full =>
    obtain zero | below := h
    · rw [← zero]
    · exact absurd full (BitVec.not_le.mpr below)
  · rfl

/-- With every count below `full`, the recomputes change only the flags, and add the same flags to every state
with these channels. -/
theorem recomputeList_of_countsBelowFull (cs : List Chan) {s : State} (h : CountsBelowFull s) :
    ∃ x, ∀ u : State, u.ch = s.ch → recomputeList cs u = u.setWord .flag (u.flag ||| x) := by
  induction cs with
  | nil => exact ⟨0#32, fun u _ => by rw [BitVec.or_zero]; rfl⟩
  | cons c cs ih =>
    obtain ⟨x, hx⟩ := ih
    refine ⟨halfFlag c (s.chan c) ||| overFlag c (s.chan c) ||| x, fun u hu => ?_⟩
    have first : chanRecompute c u =
        u.setWord .flag (u.flag ||| halfFlag c (s.chan c) ||| overFlag c (s.chan c)) := by
      rw [chanRecompute, chan_congr u s c hu, autoReload_of_below (h c), ← chan_congr u s c hu, setChan_chan]
      rfl
    rw [recomputeList, first, hx]
    · simp only [State.setWord, BitVec.or_assoc]
    · exact hu

/-- The flag word: the second write adds the flags that the first has added. -/
theorem flagWrite_whole_idem (P : Params) (hP : P.Ok) (v : Word) {s : State} (h : CountsBelowFull s) :
    globalWrite P .flag .whole v (globalWrite P .flag .whole v s) = globalWrite P .flag .whole v s := by
  obtain ⟨x, hx⟩ := recomputeList_of_countsBelowFull Chan.all h
  have write (u : State) (hu : u.ch = s.ch) :
      globalWrite P .flag .whole v u = linesRecompute P (u.setWord .flag (v ||| x)) :=
    congrArg (linesRecompute P) (hx (u.setWord .flag v) hu)
  rw [write s rfl, write]
  · exact linesRecompute_idem P hP _
  · exact linesRecompute_ch P _

/-- Where an operation answers by an update that is idempotent there, running it again changes nothing. -/
theorem exec_again_of_idem {i : Instr} {f : State → State} (run : ∀ u, exec i u = .next (f u)) {s : State}
    (idem : f (f s) = f s) (t : State) (h : exec i s = .next t) : exec i t = .next t := by
  rw [run] at h
  cases h
  rw [run, idem]

/-- Settles O43: three global words by what the first write settles, the flags by what it adds. -/
theorem wholeWordWritesAreIdempotent : Obligations.WholeWordWritesAreIdempotent := by
  intro v s
  have idem (w : GlobalWord) (hw : w ≠ .flag) := globalWrite_whole_idem Config.params params_ok w hw v s
  exact ⟨exec_again_of_idem (fun _ => rfl) (idem .enable (by decide)),
    exec_again_of_idem (fun _ => rfl) (idem .stop (by decide)),
    exec_again_of_idem (fun _ => rfl) (idem .mask (by decide)),
    fun b => exec_again_of_idem (fun _ => rfl) (intcMaskWrite_whole_idem b v s),
    fun h => exec_again_of_idem (fun _ => rfl) (flagWrite_whole_idem _ params_ok v h)⟩

end Sys2Proof.Proofs
end


section
/-! SUPPORT. The statements of 30_encoding.md. Decode is split along its branches once: what each branch gives
is well-formed and encodes to the label that was decoded (`Encodes`). In the other direction decode is followed
on the encoding of each family of rows. -/
namespace Sys2Proof.Proofs
open Sys2Proof.Machine

/-- `i` is well-formed and `op` is its encoding. -/
def Encodes (i : Instr) (op : Operation) : Prop := i.wellFormed = true ∧ encode i = op

/-! Offsets and labels put together from their fields -/

theorem isRegisterAccess_iff (sz : Size) (off : BitVec 12) :
    isRegisterAccess sz off = true ↔ sz = .word ∧ off.toNat % 4 = 0 := by
  rw [isRegisterAccess, isAligned_eq, Bool.and_eq_true, decide_eq_true_eq, decide_eq_true_eq]

/-- An offset is its bank's block and the register field (10_state.md R42). -/
theorem intcOffset_of_fields (off : BitVec 12) (b : Bank)
    (h : Bank.ofIndex (off.extractLsb' 5 7).toNat = some b) :
    BitVec.ofNat 12 (0x20 * b.index + (off.extractLsb' 0 5).toNat) = off := by
  have bank : b.index = off.toNat / 32 := bankField_toNat off ▸ Bank.index_of_ofIndex _ _ h
  have reg : off.toNat % 32 = (off.extractLsb' 0 5).toNat := (intcField_eq off _).mp rfl
  rw [bank, ← reg, Nat.div_add_mod, BitVec.ofNat_toNat, BitVec.setWidth_eq]

/-- An offset is its channel's block and the register field (R43). -/
theorem chanOffset_of_fields (off : BitVec 12) (c : Chan) (h : chanOfOffset off = some c) :
    BitVec.ofNat 12 (0x40 + 0x10 * c.index + (off.extractLsb' 0 4).toNat) = off := by
  have block : off.toNat / 16 = 4 + c.index := (chanOfOffset_eq_some off c).mp h
  have reg : off.toNat % 16 = (off.extractLsb' 0 4).toNat := (chanField_eq off _).mp rfl
  rw [← reg, show 0x40 + 0x10 * c.index + off.toNat % 16 = off.toNat by omega, BitVec.ofNat_toNat,
    BitVec.setWidth_eq]

/-- A request's payload is its level and its index (R72). -/
theorem reqPayload_of_fields (p : BitVec 16) (h : p.toNat < 0x200) :
    BitVec.ofNat 16 ((p.getLsbD 8).toNat * 0x100 + (p.extractLsb' 0 8).toNat) = p := by
  apply BitVec.eq_of_toNat_eq
  rw [BitVec.toNat_ofNat, BitVec.extractLsb'_toNat, BitVec.getLsbD, Nat.toNat_testBit,
    Nat.shiftRight_eq_div_pow]
  omega

theorem reqPayload_toNat (lv : Bool) (idx : BitVec 8) :
    (BitVec.ofNat 16 (lv.toNat * 0x100 + idx.toNat)).toNat = lv.toNat * 0x100 + idx.toNat := by
  have := Bool.toNat_le lv
  have := idx.isLt
  rw [BitVec.toNat_ofNat]
  omega

/-- An event label is its kind and its payload (R72). -/
theorem eventLabel_of_fields (L : BitVec 20) (h : L.getLsbD 19 = true) :
    eventLabel (L.extractLsb' 16 3) (L.extractLsb' 0 16) = L := by
  have := L.isLt
  rw [BitVec.getLsbD, testBit_eq_div, decide_eq_true_eq] at h
  apply BitVec.eq_of_toNat_eq
  simp only [eventLabel_toNat, BitVec.extractLsb'_toNat, Nat.shiftRight_eq_div_pow]
  omega

/-- A bus label is its direction, size, unit and offset (R71). -/
theorem busLabel_of_fields (L : BitVec 20) (h : L.getLsbD 19 = false) :
    busLabel (L.getLsbD 18) (Size.ofCode (L.extractLsb' 16 2)) (L.extractLsb' 12 4)
      (L.extractLsb' 0 12) = L := by
  have := L.isLt
  rw [BitVec.getLsbD, testBit_eq_div, decide_eq_false_iff_not] at h
  apply BitVec.eq_of_toNat_eq
  simp only [busLabel_toNat, Size.code_ofCode, BitVec.extractLsb'_toNat, Nat.shiftRight_eq_div_pow,
    BitVec.getLsbD, Nat.toNat_testBit]
  omega

/-! Decode, branch by branch -/

theorem encodes_tickAt (c : Chan) : Encodes (.tickAt c) (tickOp c) := by
  cases c <;> exact ⟨rfl, rfl⟩

/-- What an event label decodes to encodes to that label. -/
theorem encodes_decodeEvent (ek : BitVec 3) (p : BitVec 16) :
    Encodes (decodeEvent ek p) (eventOp ek p) := by
  unfold decodeEvent
  split_ifs with tick req reset
  · subst tick
    split
    · next c h =>
      have payload : BitVec.ofNat 16 c.index = p := by
        rw [Chan.index_of_ofIndex _ _ h, BitVec.ofNat_toNat, BitVec.setWidth_eq]
      rw [← payload]
      exact encodes_tickAt c
    · next h => exact ⟨decide_eq_true ((Chan.ofIndex_eq_none _).mp h), rfl⟩
  · obtain ⟨rfl, small⟩ := req
    exact ⟨rfl, congrArg (eventOp 1#3) (reqPayload_of_fields p small)⟩
  · obtain ⟨rfl, rfl⟩ := reset
    exact ⟨rfl, rfl⟩
  · have reserved : isReservedEvent ek p = true := by
      unfold isReservedEvent
      split_ifs with one two
      · exact decide_eq_true (not_lt.mp fun small => req ⟨one, small⟩)
      · exact bne_iff_ne.mpr fun zero => reset ⟨two, zero⟩
      · rfl
    exact ⟨reserved, rfl⟩

/-- The registers of a bank, at the eight aligned offsets of its block (R73). -/
theorem encodes_decodeIntcReg (acc : Access) (b : Bank) (r : BitVec 5) (h4 : r.toNat % 4 = 0) :
    Encodes (decodeIntcReg acc b r) (intcOp acc b r.toNat) := by
  unfold decodeIntcReg
  split_ifs with source mask set clr pending res14 res18
  case neg =>
    have last : r = 0x1c#5 := by bv_omega
    subst last
    exact ⟨rfl, rfl⟩
  all_goals subst r
  all_goals cases acc <;> exact ⟨rfl, rfl⟩

theorem encodes_decodeIntc (acc : Access) (off : BitVec 12) (h4 : off.toNat % 4 = 0) :
    Encodes (decodeIntc acc off) (busOp acc .word 1#4 off) := by
  unfold decodeIntc
  split
  · next h =>
    refine ⟨?_, rfl⟩
    simp only [Instr.wellFormed, isAligned_eq, h4, (Bank.ofIndex_eq_none _).mp h, Config.numBanks,
      decide_true, Bool.and_true]
  · next b h =>
    have field : (off.extractLsb' 0 5).toNat % 4 = 0 := by
      rw [← (intcField_eq off _).mp rfl]
      omega
    have reg := encodes_decodeIntcReg acc b (off.extractLsb' 0 5) field
    rwa [intcOp, intcOffset_of_fields off b h] at reg

theorem encodes_rdTcuGlobal (g : TcuGlobalReg) :
    Encodes (.rdTcuGlobal g) (tcuOp .read (BitVec.ofNat 12 g.offset)) := by
  cases g <;> exact ⟨rfl, rfl⟩

theorem encodes_wrTcuGlobal (g : TcuGlobalReg) (v : Word) :
    Encodes (.wrTcuGlobal g v) (tcuOp (.write v) (BitVec.ofNat 12 g.offset)) := by
  cases g <;> exact ⟨rfl, rfl⟩

/-- The registers of a channel are at the four aligned offsets of its block (R74). -/
theorem chanReg_cases (r : BitVec 4) (h4 : r.toNat % 4 = 0) :
    r = 0x0#4 ∨ r = 0x4#4 ∨ r = 0x8#4 ∨ r = 0xc#4 := by
  bv_omega

theorem encodes_rdTcuAt (c : Chan) (r : BitVec 4) (h4 : r.toNat % 4 = 0) :
    Encodes (.rdTcuAt c r) (chanOp .read c r.toNat) := by
  obtain rfl | rfl | rfl | rfl := chanReg_cases r h4 <;> cases c <;> exact ⟨rfl, rfl⟩

theorem encodes_wrTcuAt (c : Chan) (r : BitVec 4) (v : Word) (h4 : r.toNat % 4 = 0) :
    Encodes (.wrTcuAt c r v) (chanOp (.write v) c r.toNat) := by
  obtain rfl | rfl | rfl | rfl := chanReg_cases r h4 <;> cases c <;> exact ⟨rfl, rfl⟩

/-- The offsets of no global register and of no channel are the reserved ones (R138). -/
theorem encodes_tcuReserved (acc : Access) (off : BitVec 12) (h4 : off.toNat % 4 = 0)
    (small : off.toNat < 0x200) (hg : TcuGlobalReg.ofOffset off.toNat = none)
    (hc : chanOfOffset off = none) : Encodes (.tcuReserved acc off) (tcuOp acc off) := by
  rw [TcuGlobalReg.ofOffset_eq_none _ h4] at hg
  rw [chanOfOffset_eq_none] at hc
  have reserved : isTcuReservedOffset off = true := decide_eq_true (by omega)
  refine ⟨?_, rfl⟩
  simp only [Instr.wellFormed, isAligned_eq, h4, reserved, decide_true, Bool.and_true]

theorem encodes_decodeTcu (acc : Access) (off : BitVec 12) (h4 : off.toNat % 4 = 0)
    (small : off.toNat < 0x200) : Encodes (decodeTcu acc off) (tcuOp acc off) := by
  have global (g : TcuGlobalReg) (h : TcuGlobalReg.ofOffset off.toNat = some g) :
      BitVec.ofNat 12 g.offset = off := by
    rw [TcuGlobalReg.offset_of_ofOffset _ _ h, BitVec.ofNat_toNat, BitVec.setWidth_eq]
  have field : (off.extractLsb' 0 4).toNat % 4 = 0 := by
    rw [← (chanField_eq off _).mp rfl]
    omega
  cases acc with
  | read =>
    simp only [decodeTcu, decodeTcuRead]
    split
    · next g h => exact global g h ▸ encodes_rdTcuGlobal g
    · next c _ hc =>
      have reg := encodes_rdTcuAt c _ field
      rwa [chanOp, chanOffset_of_fields off c hc] at reg
    · next hg hc => exact encodes_tcuReserved .read off h4 small hg hc
  | write v =>
    simp only [decodeTcu, decodeTcuWrite]
    split
    · next g h => exact global g h ▸ encodes_wrTcuGlobal g v
    · next c _ hc =>
      have reg := encodes_wrTcuAt c _ v field
      rwa [chanOp, chanOffset_of_fields off c hc] at reg
    · next hg hc => exact encodes_tcuReserved (.write v) off h4 small hg hc

/-- What a bus label decodes to encodes to that label. -/
theorem encodes_decodeBus (acc : Access) (sz : Size) (u : BitVec 4) (off : BitVec 12) :
    Encodes (decodeBus acc sz u off) (busOp acc sz u off) := by
  unfold decodeBus
  split_ifs with cgu intc reg tcu reg
  · obtain ⟨rfl, small⟩ := cgu
    cases acc <;> exact ⟨decide_eq_true small, rfl⟩
  · subst intc
    obtain ⟨rfl, h4⟩ := (isRegisterAccess_iff sz off).mp reg
    exact encodes_decodeIntc acc off h4
  · subst intc
    exact ⟨by simp only [Instr.wellFormed, reg, Bool.not_false], rfl⟩
  · obtain ⟨rfl, small⟩ := tcu
    obtain ⟨rfl, h4⟩ := (isRegisterAccess_iff sz off).mp reg
    exact encodes_decodeTcu acc off h4 small
  · obtain ⟨rfl, small⟩ := tcu
    have inside : off.toNat < 0x200 := small
    exact ⟨by simp only [Instr.wellFormed, reg, inside, decide_true, Bool.not_false, Bool.and_true], rfl⟩
  · refine ⟨decide_eq_true ?_, rfl⟩
    simp only [← BitVec.toNat_inj, BitVec.toNat_ofNat, Config.cguWindow, Config.tcuWindow] at *
    omega

/-- What any label and data word decode to encodes to them, the data word as R70 keeps it. -/
theorem encodes_decode (op : Operation) : Encodes (decode op) op.normal := by
  unfold decode
  split_ifs with event
  · have put : eventOp (op.label.extractLsb' 16 3) (op.label.extractLsb' 0 16) = op.normal := by
      rw [eventOp, eventLabel_of_fields _ event, Operation.normal, event, if_neg (by simp)]
    exact put ▸ encodes_decodeEvent _ _
  · have bus : op.label.getLsbD 19 = false := Bool.eq_false_of_not_eq_true event
    have put : busOp (Access.ofBits (op.label.getLsbD 18) op.data)
        (Size.ofCode (op.label.extractLsb' 16 2)) (op.label.extractLsb' 12 4)
        (op.label.extractLsb' 0 12) = op.normal := by
      rw [busOp, Access.isWrite_ofBits, Access.data_ofBits, busLabel_of_fields _ bus, Operation.normal, bus]
      cases op.label.getLsbD 18 <;> simp
    exact put ▸ encodes_decodeBus _ _ _ _

/-- Settles O2: the second half of `encodes_decode`. -/
theorem decodedOperationEncodesBack : Obligations.DecodedOperationEncodesBack :=
  fun op => (encodes_decode op).2

/-- Settles O3: the first half of `encodes_decode`. -/
theorem decodeGivesWellFormedOperations : Obligations.DecodeGivesWellFormedOperations :=
  fun op => (encodes_decode op).1

/-! Decode on an encoding, family by family -/

theorem decode_tickOp (c : Chan) : decode (tickOp c) = .tickAt c := by
  have small := c.index_lt
  have payload : (BitVec.ofNat 16 c.index).toNat = c.index := by
    rw [BitVec.toNat_ofNat]
    omega
  rw [tickOp, decode_eventOp, decodeEvent, if_pos rfl, payload, Chan.ofIndex_index]

theorem decode_reqOp (lv : Bool) (idx : BitVec 8) : decode (reqOp lv idx) = .req lv idx := by
  have hp := reqPayload_toNat lv idx
  have hlv := Bool.toNat_le lv
  have hidx := idx.isLt
  rw [reqOp, decode_eventOp]
  generalize BitVec.ofNat 16 (lv.toNat * 0x100 + idx.toNat) = p at hp
  have level : p.getLsbD 8 = lv := by
    rw [BitVec.getLsbD, testBit_eq_div, hp,
      show (lv.toNat * 0x100 + idx.toNat) / 2 ^ 8 % 2 = lv.toNat by omega]
    cases lv <;> rfl
  have index : p.extractLsb' 0 8 = idx := by
    apply BitVec.eq_of_toNat_eq
    rw [BitVec.extractLsb'_toNat, Nat.shiftRight_eq_div_pow, hp]
    omega
  rw [decodeEvent, if_neg (by decide), if_pos ⟨rfl, by omega⟩, level, index]

/-- A label that names no event is kept whole (R78 a). -/
theorem decodeEvent_reserved (ek : BitVec 3) (p : BitVec 16) (h : isReservedEvent ek p = true) :
    decodeEvent ek p = .reservedEvent ek p := by
  unfold isReservedEvent at h
  unfold decodeEvent
  split_ifs at h with zero one two
  · rw [if_pos zero, (Chan.ofIndex_eq_none _).mpr (of_decide_eq_true h)]
  · have large := of_decide_eq_true h
    rw [if_neg zero, if_neg (by omega), if_neg (by simp [one])]
  · have nonzero : p ≠ 0#16 := bne_iff_ne.mp h
    rw [if_neg zero, if_neg (by simp [one]), if_neg (by simp [nonzero])]
  · rw [if_neg zero, if_neg (by simp [one]), if_neg (by simp [two])]

/-- A register access in the INTC window (R73). -/
theorem decode_intcAccess (acc : Access) (off : BitVec 12) (h4 : off.toNat % 4 = 0) :
    decode (busOp acc .word 1#4 off) = decodeIntc acc off := by
  rw [decode_busOp]
  unfold decodeBus
  rw [if_neg (by simp), if_pos rfl, if_pos ((isRegisterAccess_iff _ _).mpr ⟨rfl, h4⟩)]

/-- A register of a bank, by its offset in the bank's block (R73). -/
theorem decode_intcOp (acc : Access) (b : Bank) (r : Nat) (hr : r < 32) (h4 : r % 4 = 0) :
    decode (intcOp acc b r) = decodeIntcReg acc b (BitVec.ofNat 5 r) := by
  have hb : b.index < 2 := by cases b <;> decide
  have hoff : (BitVec.ofNat 12 (0x20 * b.index + r)).toNat = 0x20 * b.index + r := by
    rw [BitVec.toNat_ofNat]
    omega
  rw [intcOp, decode_intcAccess _ _ (by omega), decodeIntc, bankField_toNat, hoff,
    show (0x20 * b.index + r) / 32 = b.index by omega, Bank.ofIndex_index]
  refine congrArg (decodeIntcReg acc b) ((intcField_eq _ _).mpr ?_)
  rw [hoff, BitVec.toNat_ofNat]
  omega

/-- A register access in the TCU window (R74). -/
theorem decode_tcuOp (acc : Access) (off : BitVec 12) (h4 : off.toNat % 4 = 0)
    (small : off.toNat < 0x200) : decode (tcuOp acc off) = decodeTcu acc off := by
  rw [tcuOp, decode_busOp]
  unfold decodeBus
  rw [if_neg (by simp), if_neg (by decide), if_pos ⟨rfl, small⟩,
    if_pos ((isRegisterAccess_iff _ _).mpr ⟨rfl, h4⟩)]

theorem decode_tcuReserved (acc : Access) (off : BitVec 12) (h4 : off.toNat % 4 = 0)
    (h : isTcuReservedOffset off = true) : decode (tcuOp acc off) = .tcuReserved acc off := by
  have range := of_decide_eq_true h
  have hg := (TcuGlobalReg.ofOffset_eq_none _ h4).mpr (by omega)
  have hc := (chanOfOffset_eq_none off).mpr (by omega)
  rw [decode_tcuOp acc off h4 (by omega)]
  cases acc <;> simp only [decodeTcu, decodeTcuRead, decodeTcuWrite, hg, hc]

/-- An access outside the windows is kept whole (R78 b). -/
theorem decodeBus_outside (acc : Access) (sz : Size) (u : BitVec 4) (off : BitVec 12)
    (h : isOutsideWindows u off = true) : decodeBus acc sz u off = .notThisBlock acc sz u off := by
  have out := of_decide_eq_true h
  simp only [← BitVec.toNat_inj, BitVec.toNat_ofNat] at out
  unfold decodeBus
  rw [if_neg, if_neg, if_neg] <;>
    simp only [← BitVec.toNat_inj, BitVec.toNat_ofNat, Config.cguWindow, Config.tcuWindow] <;> omega

/-- Settles O1: each row's encoding is followed through decode by its family. The default rows are the TCU's
registers, whose offsets are numbers that `decodeTcu` looks up. -/
theorem encodedOperationDecodesToItself : Obligations.EncodedOperationDecodesToItself := by
  intro i wf
  cases i with
  | tick0 | tick1 | tick2 | tick3 | tick4 | tick5 | tick6 | tick7 | tick15 => exact decode_tickOp _
  | req lv idx => exact decode_reqOp lv idx
  | reset => exact decode_eventOp _ _
  | reservedEvent ek p => exact (decode_eventOp ek p).trans (decodeEvent_reserved ek p wf)
  | rdCgu sz off | wrCgu sz off v =>
    exact (decode_busOp _ _ _ _).trans (if_pos ⟨rfl, of_decide_eq_true wf⟩)
  | intcUnsupported acc sz off =>
    simp only [Instr.wellFormed, Bool.not_eq_true'] at wf
    simp [encode, decode_busOp, decodeBus, wf]
  | tcuUnsupported acc sz off =>
    simp only [Instr.wellFormed, Bool.and_eq_true, decide_eq_true_eq, Bool.not_eq_true'] at wf
    simp [encode, decode_busOp, decodeBus, wf]
  | intcBankRange acc off =>
    simp only [Instr.wellFormed, isAligned_eq, Bool.and_eq_true, decide_eq_true_eq] at wf
    obtain ⟨h4, absent⟩ := wf
    rw [encode, decode_intcAccess acc off h4, decodeIntc, (Bank.ofIndex_eq_none _).mpr absent]
  | tcuReserved acc off =>
    simp only [Instr.wellFormed, isAligned_eq, Bool.and_eq_true, decide_eq_true_eq] at wf
    obtain ⟨h4, reserved⟩ := wf
    exact decode_tcuReserved acc off h4 reserved
  | notThisBlock acc sz u off => exact (decode_busOp acc sz u off).trans (decodeBus_outside acc sz u off wf)
  | rdIntcSource | wrIntcSource | rdIntcMask | wrIntcMask | rdIntcMaskSet | wrIntcMaskSet | rdIntcMaskClr
  | wrIntcMaskClr | rdIntcPending | wrIntcPending | intcReserved14 | intcReserved18 | intcReserved1c =>
    exact decode_intcOp _ _ _ (by decide) (by decide)
  | _ => exact decode_tcuOp _ _ (by decide) (by decide)

/-! What follows for words and for lines -/

theorem Encodes.decode_eq {i : Instr} {op : Operation} (h : Encodes i op) : decode op = i :=
  h.2 ▸ encodedOperationDecodesToItself i h.1

/-- Settles O4: each word is the encoding of its operation. -/
theorem specWordsDecode : Obligations.SpecWordsDecode := by
  refine ⟨?_, ?_, ?_, ?_, ?_, ?_, ?_, ?_, ?_, ?_, ?_, ?_⟩ <;>
    exact Encodes.decode_eq ⟨by decide, by decide⟩

/-- Settles O54: each line's operation is the encoding that the table of R80 writes. -/
theorem pseudoOperationsExpand : Obligations.PseudoOperationsExpand := by
  intro c b f h v idx ops
  have line {l : AsmLine} {i : Instr} (e : Encodes i l.operation) :
      [l].map (fun m => decode m.operation) = [i] :=
    congrArg (fun j => [j]) e.decode_eq
  refine ⟨line ⟨rfl, rfl⟩, line ⟨rfl, rfl⟩, line ⟨rfl, rfl⟩, line ⟨rfl, rfl⟩, line ⟨rfl, rfl⟩, ?_,
    line ⟨rfl, rfl⟩, line ⟨rfl, rfl⟩, line ⟨rfl, rfl⟩, line ⟨rfl, rfl⟩⟩
  have full : decode (chanOp (.write f) c 0x0) = .wrTcuFullAt c f :=
    (encodes_wrTcuAt c 0x0#4 f rfl).decode_eq
  have half : decode (chanOp (.write h) c 0x4) = .wrTcuHalfAt c h :=
    (encodes_wrTcuAt c 0x4#4 h rfl).decode_eq
  exact congrArg₂ (fun i j => [i, j]) full half

/-- Settles O30: the effect of both operations is the refusal that carries their fields. -/
theorem labelsWithoutOperationAreRefused : Obligations.LabelsWithoutOperationAreRefused :=
  fun ek p acc sz u off s =>
    ⟨exec_eq_run (.reservedEvent ek p) s, exec_eq_run (.notThisBlock acc sz u off) s⟩

/-! Physical addresses -/

theorem addressFields_isSome_iff (pa : BitVec 32) :
    (addressFields pa).isSome = true ↔ 0x10000000 ≤ pa.toNat ∧ pa.toNat ≤ 0x10002fff := by
  cases h : addressFields pa with
  | none =>
    have out := addressFields_eq_none pa h
    simp only [Option.isSome_none, Bool.false_eq_true, false_iff]
    omega
  | some p =>
    obtain ⟨hpa, hu⟩ := addressFields_eq_some pa p h
    have hoff := p.2.isLt
    simp only [Option.isSome_some, true_iff]
    omega

/-- Bits 15:0 of a bus label are the unit and the offset. -/
theorem busLabel_low (w : Bool) (sz : Size) (u : BitVec 4) (off : BitVec 12) :
    ((busLabel w sz u off).extractLsb' 0 16).toNat = u.toNat * 0x1000 + off.toNat := by
  have := u.isLt
  have := off.isLt
  rw [BitVec.extractLsb'_toNat, busLabel_toNat, Nat.shiftRight_eq_div_pow]
  omega

/-- Settles O5: the range is that of the address fields, and each field of the label is read back. -/
theorem addressBitsAreLabelBits : Obligations.AddressBitsAreLabelBits := by
  intro acc sz pa
  refine ⟨?_, fun op h => ?_⟩
  · rw [accessOp, Option.isSome_map, addressFields_isSome_iff]
  · obtain ⟨p, hp, rfl⟩ := Option.map_eq_some_iff.mp h
    obtain ⟨hpa, hu⟩ := addressFields_eq_some pa p hp
    have low : (busLabel acc.isWrite sz p.1 p.2).extractLsb' 0 16 = pa.extractLsb' 0 16 := by
      have hoff := p.2.isLt
      apply BitVec.eq_of_toNat_eq
      rw [busLabel_low, BitVec.extractLsb'_toNat, Nat.shiftRight_eq_div_pow]
      omega
    exact ⟨low, busLabel_size _ _ _ _, busLabel_write _ _ _ _, busLabel_class _ _ _ _, rfl⟩

end Sys2Proof.Proofs
end

section
/-! SUPPORT. The statements of 40_intc.md: what a request and a register access of the INTC do, which labels
decode to them, and what a step can do to the banks (`BanksStep`), from which the frame of an output line
follows. -/
namespace Sys2Proof.Proofs
open Sys2Proof.Machine Sys2Proof.Safety

/-! Requests (R101) -/

theorem reqBank_eq_some_iff (idx : BitVec 8) (b : Bank) : reqBank idx = some b ↔ idx.toNat / 32 = b.index :=
  ⟨fun h => (Bank.index_of_ofIndex _ b h).symm, fun h => by rw [reqBank, h, Bank.ofIndex_index]⟩

/-- Both spellings of "a TCU line drives that input" say the same (R101 c). -/
theorem isTcuDriven_iff (P : Params) (idx : BitVec 8) :
    isTcuDriven P idx = true ↔ ∃ k, idx.toNat = (lineSource P k).val := by
  rw [isTcuDriven, decide_eq_true_eq]
  constructor
  · rintro (h | h | h)
    exacts [⟨.l0, h⟩, ⟨.l1, h⟩, ⟨.l2, h⟩]
  · rintro ⟨k, h⟩
    cases k with
    | l0 => exact .inl h
    | l1 => exact .inr (.inl h)
    | l2 => exact .inr (.inr h)

theorem request_of_none {P : Params} {idx : BitVec 8} (lv : Bool) (s : State) (h : reqBank idx = none) :
    request P lv idx s = .next (s.emit (.reqRange idx)) := by
  rw [request, h]

theorem request_of_driven {P : Params} {idx : BitVec 8} {b : Bank} (lv : Bool) (s : State)
    (h : reqBank idx = some b) (driven : isTcuDriven P idx = true) :
    request P lv idx s = .refused (.tcuDrivenInput idx) := by
  simp only [request, h, driven, if_true]

theorem request_of_free {P : Params} {idx : BitVec 8} {b : Bank} (lv : Bool) (s : State)
    (h : reqBank idx = some b) (free : ¬ isTcuDriven P idx = true) :
    request P lv idx s =
      .next (s.setBank b (bankOf (withBit (s.bank b).source (idx.toNat % 32) lv) (s.bank b).mask)) := by
  simp only [request, h, if_neg free, intcDrive_eq]
  rfl

/-- Settles O11: the two halves of the index range are the two banks. -/
theorem requestDrivesItsInput : Obligations.RequestDrivesItsInput := by
  intro lv idx s inRange undriven
  have free : ¬ isTcuDriven Config.params idx = true := fun h =>
    let ⟨k, hk⟩ := (isTcuDriven_iff _ _).mp h
    undriven k hk
  rw [exec_eq_run, effect, Effect.run]
  by_cases low : idx.toNat < 32
  · have bank : reqBank idx = some .b0 := (reqBank_eq_some_iff idx .b0).mpr (Nat.div_eq_of_lt low)
    rw [request_of_free lv s bank free, if_pos low, Nat.mod_eq_of_lt low]
    rfl
  · have one : idx.toNat / 32 = 1 := by omega
    have bank : reqBank idx = some .b1 := (reqBank_eq_some_iff idx .b1).mpr one
    have place : idx.toNat % 32 = idx.toNat - 32 := by omega
    rw [request_of_free lv s bank free, if_neg low, place]
    rfl

/-- Settles O12: such an index is in no bank. -/
theorem requestOutOfRangeIsDropped : Obligations.RequestOutOfRangeIsDropped := by
  intro lv idx s h
  have noBank : reqBank idx = none := (Bank.ofIndex_eq_none _).mpr (by omega)
  rw [exec_eq_run, effect, Effect.run, request_of_none lv s noBank]
  rfl

/-- Settles O13: the input is one of bank 0's, so the range test does not drop the request first. -/
theorem requestToTcuInputIsRefused : Obligations.RequestToTcuInputIsRefused := by
  intro lv k s
  have small := (lineSource Config.params k).isLt
  have index : (BitVec.ofNat 8 (lineSource Config.params k).val).toNat = (lineSource Config.params k).val := by
    rw [BitVec.toNat_ofNat]
    omega
  have bank : reqBank (BitVec.ofNat 8 (lineSource Config.params k).val) = some .b0 :=
    (reqBank_eq_some_iff _ .b0).mpr (by rw [index]; exact Nat.div_eq_of_lt small)
  rw [exec_eq_run, effect, Effect.run, request_of_driven lv s bank ((isTcuDriven_iff _ _).mpr ⟨k, index⟩)]

/-! Labels of register accesses (R71, R73). A read's label decodes alike with any data word. -/

/-- The label of a 4-byte access at offset 0 of the INTC's window (R71). -/
def intcLabelBase : Access → Nat
  | .read => 0x21000
  | .write _ => 0x61000

theorem busLabel_intc (acc : Access) (off : BitVec 12) :
    busLabel acc.isWrite .word 1#4 off = BitVec.ofNat 20 (intcLabelBase acc + off.toNat) := by
  cases acc <;> simp [busLabel, Access.isWrite, Size.code, intcLabelBase]

/-- Decode takes the data word from a write's label alone (R70). -/
theorem decode_busLabel {acc : Access} {d : Word} (h : Access.ofBits acc.isWrite d = acc) (sz : Size)
    (u : BitVec 4) (off : BitVec 12) :
    decode ⟨busLabel acc.isWrite sz u off, d⟩ = decode (busOp acc sz u off) := by
  cases acc with
  | read => simp only [decode, busOp, Access.isWrite, busLabel_write, Access.ofBits, Bool.false_eq_true, if_false]
  | write v => cases h; rfl

theorem decode_intcLabel {acc : Access} {off : BitVec 12} {i : Instr} {l : Nat} {d : Word}
    (e : Encodes i (busOp acc .word 1#4 off)) (hl : l = intcLabelBase acc + off.toNat)
    (hd : Access.ofBits acc.isWrite d = acc) : decode ⟨BitVec.ofNat 20 l, d⟩ = i := by
  rw [hl, ← busLabel_intc, decode_busLabel hd, e.decode_eq]

/-- Register `r` of bank `b`. -/
theorem decode_intcRegLabel {acc : Access} {b : Bank} {r : Nat} {i : Instr} {l : Nat} {d : Word}
    (e : Encodes i (intcOp acc b r)) (hr : r < 32) (hl : l = intcLabelBase acc + (0x20 * b.index + r))
    (hd : Access.ofBits acc.isWrite d = acc) : decode ⟨BitVec.ofNat 20 l, d⟩ = i := by
  have bank : b.index < 2 := by cases b <;> decide
  refine decode_intcLabel e ?_ hd
  rw [hl, BitVec.toNat_ofNat, Nat.mod_eq_of_lt (by omega)]

/-- An aligned offset past bank 1 names no bank (R73, R112). -/
theorem encodes_intcBankRange (acc : Access) (off : BitVec 12) (h4 : off.toNat % 4 = 0)
    (absent : 2 ≤ off.toNat / 0x20) : Encodes (.intcBankRange acc off) (busOp acc .word 1#4 off) := by
  refine ⟨?_, rfl⟩
  simp only [Instr.wellFormed, isAligned_eq, bankField_toNat, h4, absent, Config.numBanks, decide_true,
    Bool.and_true]

/-! Register accesses -/

/-- Settles O17: the reads by their effect, the pending word by R26. -/
theorem intcReadsAnswerTheRegister : Obligations.IntcReadsAnswerTheRegister := by
  intro b s
  refine ⟨exec_eq_run (.rdIntcSource b) s, exec_eq_run (.rdIntcMask b) s, exec_eq_run (.rdIntcPending b) s,
    fun h => (h b).1, fun d => ⟨?_, ?_, ?_⟩⟩ <;>
  · refine decode_intcRegLabel ⟨rfl, rfl⟩ (by decide) ?_ rfl
    cases b <;> rfl

/-- Settles O18: both reads are diagnosed, at the offset of the bank's register. -/
theorem intcWriteOnlyReadsAnswerZero : Obligations.IntcWriteOnlyReadsAnswerZero := by
  intro b s
  rw [exec_eq_run, exec_eq_run]
  cases b <;> exact ⟨rfl, rfl⟩

/-- Settles O19: both writes have the effect of a dropped one. -/
theorem intcSourceAndPendingWritesAreIgnored : Obligations.IntcSourceAndPendingWritesAreIgnored := by
  intro b v s
  refine ⟨exec_eq_run (.wrIntcSource b v) s, exec_eq_run (.wrIntcPending b v) s, ?_, ?_⟩ <;>
  · refine decode_intcRegLabel ⟨rfl, rfl⟩ (by decide) ?_ rfl
    cases b <;> rfl

/-- The mask write of a bank that combines its data by `op` (R105 to R107). -/
def intcMaskWriter (op : BitsetOp) (b : Bank) (v : Word) : Instr :=
  match op with
  | .whole => .wrIntcMask b v
  | .set => .wrIntcMaskSet b v
  | .clr => .wrIntcMaskClr b v

theorem exec_intcMaskWriter (op : BitsetOp) (b : Bank) (v : Word) (s : State) :
    exec (intcMaskWriter op b v) s =
      .next (s.setBank b (bankOf (s.bank b).source (op.apply (s.bank b).mask v))) := by
  rw [← intcMaskWrite_eq]
  cases op <;> rfl

/-- Settles O20: the three ways of combining, each for either bank. -/
theorem intcMaskWriteResult : Obligations.IntcMaskWriteResult := by
  intro v s
  refine ⟨exec_intcMaskWriter .whole .b0 v s, exec_intcMaskWriter .whole .b1 v s,
    exec_intcMaskWriter .set .b0 v s, exec_intcMaskWriter .set .b1 v s,
    exec_intcMaskWriter .clr .b0 v s, exec_intcMaskWriter .clr .b1 v s, fun b => ⟨?_, ?_, ?_⟩⟩ <;>
  · refine decode_intcRegLabel ⟨rfl, rfl⟩ (by decide) ?_ rfl
    cases b <;> rfl

/-- Settles O21: each access is a diagnosed one; the labels of the reserved offsets are numbers, those of the
absent banks are a label for every offset. -/
theorem intcCatchAllsAreDropped : Obligations.IntcCatchAllsAreDropped := by
  intro b off v s
  refine ⟨exec_eq_run (.intcReserved14 .read b) s, exec_eq_run (.intcReserved14 (.write v) b) s,
    exec_eq_run (.intcReserved18 .read b) s, exec_eq_run (.intcReserved18 (.write v) b) s,
    exec_eq_run (.intcReserved1c .read b) s, exec_eq_run (.intcReserved1c (.write v) b) s,
    exec_eq_run (.intcBankRange .read off) s, exec_eq_run (.intcBankRange (.write v) off) s, ?_⟩
  rintro acc l (⟨rfl, rfl⟩ | ⟨rfl, rfl⟩) <;> refine ⟨?_, ?_, ?_,
    fun h4 absent => decode_intcLabel (encodes_intcBankRange _ off h4 absent) rfl rfl⟩ <;>
  · refine decode_intcRegLabel ⟨rfl, rfl⟩ (by decide) ?_ rfl
    cases b <;> rfl

/-! What a step can do to the banks -/

/-- The operation that alone has the effect, where that is a request or a mask write. -/
def intcOperation : Effect → Option Instr
  | .request lv idx => some (.req lv idx)
  | .intcMask op b v => some (intcMaskWriter op b v)
  | _ => none

theorem eq_of_intcOperation (i j : Instr) (h : intcOperation (effect i) = some j) : i = j := by
  cases i with
  | intcUnsupported acc | tcuUnsupported acc | intcReserved14 acc | intcReserved18 acc
  | intcReserved1c acc | intcBankRange acc | tcuReserved acc => cases acc <;> cases h
  | _ => cases h <;> rfl

/-- The source word of bank 0 with the inputs that the TCU lines drive at the lines' levels (R186). -/
def wired (P : Params) (source : Word) (l : Lines) : Word :=
  withBit (withBit (withBit source P.irqSrc0.val l.l0) P.irqSrc1.val l.l1) P.irqSrc2.val l.l2

/-- A line recompute drives bank 0's inputs to the levels it gives the lines. -/
theorem linesRecompute_intc (P : Params) (s : State) :
    (linesRecompute P s).intc = { s.intc with
      b0 := bankOf (wired P s.intc.b0.source (linesRecompute P s).line) s.intc.b0.mask } := by
  rw [linesRecompute_eq]
  rfl

/-- What an effect can do to the banks: leave them, drive one input, write one mask, reset them, or drive the
inputs of bank 0 that the TCU lines are wired to. -/
inductive BanksStep (s : State) : Effect → State → Prop
  | kept {e : Effect} {t : State} (same : t.intc = s.intc) : BanksStep s e t
  | driven {idx : BitVec 8} {b : Bank} (lv : Bool) (bank : reqBank idx = some b) :
    BanksStep s (.request lv idx) (intcDrive b (reqBit idx) lv s)
  | masked (op : BitsetOp) (b : Bank) (v : Word) : BanksStep s (.intcMask op b v) (intcMaskWrite op b v s)
  | reset {t : State} : BanksStep s .reset t
  | lines {e : Effect} {t : State}
    (intc : t.intc = { s.intc with
      b0 := bankOf (wired Config.params s.intc.b0.source t.line) s.intc.b0.mask }) : BanksStep s e t

/-- Operations that end in a line recompute, having left the banks alone. -/
theorem BanksStep.of_linesRecompute {s u t : State} (e : Effect) (same : u.intc = s.intc)
    (intc : t.intc = (linesRecompute Config.params u).intc)
    (line : t.line = (linesRecompute Config.params u).line) : BanksStep s e t :=
  .lines (by rw [intc, line, linesRecompute_intc, same])

theorem banksStep_of_run {e : Effect} {s t : State} (h : e.run s = .next t) : BanksStep s e t := by
  cases e with
  | tick c =>
    cases h
    exact .of_linesRecompute _ ((chanRecompute_intc c _).trans (countTick_intc _ c s)) rfl rfl
  | request lv idx =>
    obtain ⟨-, rfl⟩ | ⟨b, bank, rfl⟩ := request_eq_next h
    · exact .kept rfl
    · exact .driven lv bank
  | reset => exact .reset
  | refuse r => cases h
  | read r => cases h; exact .kept (record_intc r s)
  | drop | emit | logCgu => cases h; exact .kept rfl
  | intcMask op b v => cases h; exact .masked op b v
  | channel c f v => cases h; exact .of_linesRecompute _ (by simp only [chanRecompute_intc, setChan_intc]) rfl rfl
  | word w op v => cases h; exact .of_linesRecompute _ (by simp only [recomputeAll_intc, setWord_intc]) rfl rfl

/-! Frames of the banks (R113, R114) -/

theorem bank_intcDrive_ne {b d : Bank} (h : d ≠ b) (i : Fin 32) (lv : Bool) (s : State) :
    (intcDrive b i lv s).bank d = s.bank d := by
  rw [intcDrive_eq, bank_setBank_ne s b d _ h]

theorem bank_intcMaskWrite_ne {b d : Bank} (h : d ≠ b) (op : BitsetOp) (v : Word) (s : State) :
    (intcMaskWrite op b v s).bank d = s.bank d := by
  rw [intcMaskWrite_eq, bank_setBank_ne s b d _ h]

/-- Settles O46: a request and a mask write set their own bank, a source or pending write sets none. -/
theorem intcOperationsTouchOneBank : Obligations.IntcOperationsTouchOneBank := by
  rintro s t b d v lv idx hd (h | h | h | h | h | ⟨bank, h⟩)
  · cases h; exact bank_intcMaskWrite_ne hd .whole v s
  · cases h; exact bank_intcMaskWrite_ne hd .set v s
  · cases h; exact bank_intcMaskWrite_ne hd .clr v s
  · cases h; rfl
  · cases h; rfl
  · have inBank : reqBank idx = some b := (reqBank_eq_some_iff idx b).mpr bank
    obtain ⟨noBank, -⟩ | ⟨c, hc, rfl⟩ := request_eq_next h
    · cases inBank.symm.trans noBank
    · cases inBank.symm.trans hc
      exact bank_intcDrive_ne hd _ lv s

/-- R26 says that a bank is what its recompute makes of its source and mask. -/
theorem bank_eq_bankOf {s : State} (h : IntcConsistent s) (b : Bank) :
    s.bank b = bankOf (s.bank b).source (s.bank b).mask := by
  obtain ⟨pending, out⟩ := h b
  have irqOut : (s.bank b).irqOut = decide ((s.bank b).pending ≠ 0#32) := by
    rw [Bool.eq_iff_iff, out, decide_eq_true_eq]
  rw [bankOf, ← pending, ← irqOut]

/-- An output is high where an input is high and not masked. -/
theorem irqOut_bankOf_iff (source mask : Word) :
    (bankOf source mask).irqOut = true ↔ ∃ j, source.getLsbD j = true ∧ mask.getLsbD j = false := by
  simp only [bankOf, decide_eq_true_eq]
  constructor
  · contrapose!
    intro allMasked
    refine BitVec.eq_of_getLsbD_eq fun j hj => ?_
    cases hs : source.getLsbD j with
    | false => simp [hs]
    | true => simp [allMasked j hs]
  · rintro ⟨j, hs, hm⟩ zero
    have low : (source &&& ~~~mask).getLsbD j = false := by rw [zero, BitVec.getLsbD_zero]
    rw [BitVec.getLsbD_and, BitVec.getLsbD_not, hs, hm, decide_eq_true (BitVec.lt_of_getLsbD hs)] at low
    cases low

/-- More inputs and less mask leave a high output high. -/
theorem irqOut_bankOf_mono {source source' mask mask' : Word}
    (up : ∀ j, source.getLsbD j = true → source'.getLsbD j = true)
    (down : ∀ j, mask.getLsbD j = false → mask'.getLsbD j = false)
    (h : (bankOf source mask).irqOut = true) : (bankOf source' mask').irqOut = true := by
  obtain ⟨j, hs, hm⟩ := (irqOut_bankOf_iff _ _).mp h
  exact (irqOut_bankOf_iff _ _).mpr ⟨j, up j hs, down j hm⟩

theorem getLsbD_withBit_true {w : Word} {j : Nat} (i : Nat) (h : w.getLsbD j = true) :
    (withBit w i true).getLsbD j = true := by
  rw [withBit_getLsbD w i j true (BitVec.lt_of_getLsbD h), h, ite_self]

theorem getLsbD_apply_clr {w : Word} {j : Nat} (v : Word) (h : w.getLsbD j = false) :
    (BitsetOp.clr.apply w v).getLsbD j = false := by
  rw [BitsetOp.apply, BitVec.getLsbD_and, h, Bool.false_and]

/-- Where the wired inputs have the old levels and no line falls, driving them again lowers no input. -/
theorem getLsbD_wired {P : Params} {s t : State} (wires : InputsFollowLines P s)
    (noFall : ∀ k, s.lineOf k = true → t.lineOf k = true) {j : Nat}
    (h : s.intc.b0.source.getLsbD j = true) : (wired P s.intc.b0.source t.line).getLsbD j = true := by
  have hj := BitVec.lt_of_getLsbD h
  obtain ⟨w0, w1, w2⟩ := wires
  simp only [wired, withBit_getLsbD _ _ _ _ hj]
  split_ifs with h2 h1 h0
  · exact noFall .l2 (w2.symm.trans (h2 ▸ h))
  · exact noFall .l1 (w1.symm.trans (h1 ▸ h))
  · exact noFall .l0 (w0.symm.trans (h0 ▸ h))
  · exact h

/-- A request raising an input, an unmasking write and a line recompute under which no line falls leave a high
output high. -/
theorem irqOut_of_banksStep {e : Effect} {s t : State} {b : Bank} (inv : Inv s) (h : BanksStep s e t)
    (high : (s.bank b).irqOut = true) (noReset : e ≠ .reset)
    (noRequest : ∀ idx, reqBank idx = some b → e ≠ .request false idx)
    (noMask : ∀ op v, e = .intcMask op b v → op = .clr)
    (noFall : b = .b0 → ∀ k, s.lineOf k = true → t.lineOf k = true) : (t.bank b).irqOut = true := by
  have high' : (bankOf (s.bank b).source (s.bank b).mask).irqOut = true :=
    (bank_eq_bankOf inv.intc b) ▸ high
  cases h with
  | kept same => rw [bank_congr t s b same, high]
  | @driven idx d lv bank =>
    by_cases hd : b = d
    · subst hd
      cases lv with
      | false => exact absurd rfl (noRequest idx bank)
      | true =>
        rw [intcDrive_eq, bank_setBank_same]
        exact irqOut_bankOf_mono (fun j => getLsbD_withBit_true _) (fun j => id) high'
    · rw [bank_intcDrive_ne hd, high]
  | masked op d v =>
    by_cases hd : b = d
    · subst hd
      cases noMask op v rfl
      rw [intcMaskWrite_eq, bank_setBank_same]
      exact irqOut_bankOf_mono (fun j => id) (fun j => getLsbD_apply_clr v) high'
    · rw [bank_intcMaskWrite_ne hd, high]
  | reset => exact absurd rfl noReset
  | lines intc =>
    cases b with
    | b0 =>
      rw [State.bank, intc]
      exact irqOut_bankOf_mono (fun j => getLsbD_wired inv.wires (noFall rfl)) (fun j => id) high'
    | b1 => rw [State.bank, intc]; exact high

/-- Settles O47: what is none of the listed operations leaves the output high (`irqOut_of_banksStep`). -/
theorem outputLineFallsOnlyByProducerOrMask : Obligations.OutputLineFallsOnlyByProducerOrMask := by
  intro i s t b inv h high low
  rw [exec_eq_run] at h
  by_contra unlisted
  simp only [not_or] at unlisted
  obtain ⟨noRequest, noMask, noMaskSet, noReset, noFall⟩ := unlisted
  have stays : (t.bank b).irqOut = true := by
    refine irqOut_of_banksStep inv (banksStep_of_run h) high (fun e => noReset (eq_reset_of_effect i e))
      (fun idx bank e => ?_) (fun op v e => ?_) (fun hb k up => ?_)
    · exact noRequest ⟨idx, eq_of_intcOperation i _ (by rw [e]; rfl), (reqBank_eq_some_iff idx b).mp bank⟩
    · have writer : i = intcMaskWriter op b v := eq_of_intcOperation i _ (by rw [e]; rfl)
      cases op with
      | whole => exact absurd ⟨v, writer⟩ noMask
      | set => exact absurd ⟨v, writer⟩ noMaskSet
      | clr => rfl
    · by_contra down
      exact noFall ⟨hb, k, up, Bool.eq_false_of_not_eq_true down⟩
  rw [stays] at low
  cases low

end Sys2Proof.Proofs
end

section
/-! SUPPORT. The statements of 41_tcu_channel.md: which labels decode to the accesses of a channel's registers,
what those accesses do, said once for the four registers of the nine channels, and the offsets of no register. -/
namespace Sys2Proof.Proofs
open Sys2Proof.Machine Sys2Proof.Safety

/-! Labels of register accesses (R71, R74) -/

theorem busLabel_tcu_read (off : BitVec 12) :
    busLabel false .word 2#4 off = BitVec.ofNat 20 (0x22000 + off.toNat) := by
  simp [busLabel, Size.code]

theorem busLabel_tcu_write (off : BitVec 12) :
    busLabel true .word 2#4 off = BitVec.ofNat 20 (0x62000 + off.toNat) := by
  simp [busLabel, Size.code]

/-- A read's label decodes alike with any data word. -/
theorem decode_tcuReadLabel (off : BitVec 12) (d : Word) :
    decode ⟨BitVec.ofNat 20 (0x22000 + off.toNat), d⟩ = decode (tcuOp .read off) := by
  rw [← busLabel_tcu_read]
  exact decode_busLabel (acc := .read) rfl .word 2#4 off

theorem decode_tcuWriteLabel (off : BitVec 12) (v : Word) :
    decode ⟨BitVec.ofNat 20 (0x62000 + off.toNat), v⟩ = decode (tcuOp (.write v) off) := by
  rw [← busLabel_tcu_write]
  rfl

/-- Channel blocks end below `0x140`, so the offset of a channel's register is not cut to its 12 bits. -/
theorem chanOffset_toNat (c : Chan) (r : BitVec 4) :
    (BitVec.ofNat 12 (0x40 + 0x10 * c.index + r.toNat)).toNat = 0x40 + r.toNat + 0x10 * c.index := by
  have hc := c.index_lt
  have hr := r.isLt
  rw [BitVec.toNat_ofNat]
  omega

theorem decode_chanReadLabel (c : Chan) (r : BitVec 4) (d : Word) (h4 : r.toNat % 4 = 0) :
    decode ⟨BitVec.ofNat 20 (0x22040 + r.toNat + 0x10 * c.index), d⟩ = .rdTcuAt c r := by
  have label := decode_tcuReadLabel (BitVec.ofNat 12 (0x40 + 0x10 * c.index + r.toNat)) d
  rw [chanOffset_toNat, ← Nat.add_assoc, ← Nat.add_assoc] at label
  exact label.trans (encodes_rdTcuAt c r h4).decode_eq

theorem decode_chanWriteLabel (c : Chan) (r : BitVec 4) (v : Word) (h4 : r.toNat % 4 = 0) :
    decode ⟨BitVec.ofNat 20 (0x62040 + r.toNat + 0x10 * c.index), v⟩ = .wrTcuAt c r v := by
  have label := decode_tcuWriteLabel (BitVec.ofNat 12 (0x40 + 0x10 * c.index + r.toNat)) v
  rw [chanOffset_toNat, ← Nat.add_assoc, ← Nat.add_assoc] at label
  exact label.trans (encodes_wrTcuAt c r v h4).decode_eq

/-! Writes of a channel's register (R134 to R137) -/

theorem effect_channelWriter (c : Chan) (f : ChanField) (v : Word) :
    effect (channelWriter c f v) = .channel c f v := by
  cases f <;> cases c <;> rfl

/-- The register takes its data, the channel and then the lines are recomputed. -/
theorem exec_channelWriter (c : Chan) (f : ChanField) (v : Word) (s : State) :
    exec (channelWriter c f v) s =
      .next (withLines Config.params (withChannel c (f.write v (s.chan c)) s)) := by
  rw [exec_eq_run, effect_channelWriter, Effect.run, channelWrite_eq]

/-- `DATA & 0x0000_FFFF` is the low half of the data (R75). -/
theorem thresholdData_eq_setWidth (v : Word) : thresholdData v = (v.setWidth 16).setWidth 32 := by
  have low : v.toNat &&& 0xFFFF = v.toNat % 2 ^ 16 := Nat.and_two_pow_sub_one_eq_mod v.toNat 16
  apply BitVec.eq_of_toNat_eq
  rw [thresholdData, BitVec.toNat_and, BitVec.toNat_setWidth, BitVec.toNat_setWidth]
  exact low.trans (by omega)

/-- Settles O27: both writes are a channel write of the low half of the data. -/
theorem tcuThresholdWriteResult : Obligations.TcuThresholdWriteResult := by
  intro c v s
  rw [← thresholdData_eq_setWidth]
  exact ⟨exec_channelWriter c .full v s, exec_channelWriter c .half v s,
    decode_chanWriteLabel c 0x0#4 v rfl, decode_chanWriteLabel c 0x4#4 v rfl⟩

/-- Settles O28: both writes are a channel write of the whole data. -/
theorem tcuCountAndCtrlWriteResult : Obligations.TcuCountAndCtrlWriteResult :=
  fun c v s => ⟨exec_channelWriter c .count v s, exec_channelWriter c .ctrl v s,
    decode_chanWriteLabel c 0x8#4 v rfl, decode_chanWriteLabel c 0xc#4 v rfl⟩

/-! Offsets of no register (R138) -/

/-- Settles O29: each access is a diagnosed one, and the three ranges are the reserved offsets of decode. -/
theorem tcuReservedOffsetsAreDropped : Obligations.TcuReservedOffsetsAreDropped := by
  intro off v s
  refine ⟨exec_eq_run (.tcuReserved .read off) s, exec_eq_run (.tcuReserved (.write v) off) s,
    fun h4 range => ?_⟩
  have reserved : isTcuReservedOffset off = true := decide_eq_true (by omega)
  exact ⟨(decode_tcuReadLabel off v).trans (decode_tcuReserved .read off h4 reserved),
    (decode_tcuWriteLabel off v).trans (decode_tcuReserved (.write v) off h4 reserved)⟩

/-! Reads of a channel's register (R130 to R133) -/

theorem effect_rdTcuCountAt (c : Chan) : effect (.rdTcuCountAt c) = .read (.count c) := by
  cases c <;> rfl

/-- Settles O25: the read by its effect, the bound by R191. -/
theorem tcuCountReadsAnswerTheCount : Obligations.TcuCountReadsAnswerTheCount := by
  intro c s
  refine ⟨?_, fun below => below c, fun d => decode_chanReadLabel c 0x8#4 d rfl⟩
  rw [exec_eq_run, effect_rdTcuCountAt]
  rfl

/-- The read of a register that a bus read does not show. -/
def unhandledReader (c : Chan) (r : ChanReg) : Instr :=
  match r with
  | .full => .rdTcuFullAt c
  | .half => .rdTcuHalfAt c
  | .ctrl => .rdTcuCtrlAt c

theorem effect_unhandledReader (c : Chan) (r : ChanReg) :
    effect (unhandledReader c r) = .read (.diagnosed (.unhandledRead c r) .word) := by
  cases r <;> cases c <;> rfl

/-- The answer is 0 and the record names channel and register, whatever is stored. -/
theorem exec_unhandledReader (c : Chan) (r : ChanReg) (s : State) :
    exec (unhandledReader c r) s =
      .next { s with diags := s.diags ++ [.unhandledRead c r], rdata := .word 0#32 } := by
  rw [exec_eq_run, effect_unhandledReader]
  rfl

/-- Settles O26: the three registers that a bus read does not show. -/
theorem tcuUnhandledReadsAnswerZero : Obligations.TcuUnhandledReadsAnswerZero :=
  fun c s => ⟨exec_unhandledReader c .full s, exec_unhandledReader c .half s, exec_unhandledReader c .ctrl s,
    fun d => ⟨decode_chanReadLabel c 0x0#4 d rfl, decode_chanReadLabel c 0x4#4 d rfl,
      decode_chanReadLabel c 0xc#4 d rfl⟩⟩

end Sys2Proof.Proofs
end

section
/-! SUPPORT. The statements of 42_tcu_global.md: the reads and writes of the four global words, said once for
every word and every way of combining, and which flags the recompute of a global write sets. -/
namespace Sys2Proof.Proofs
open Sys2Proof.Machine Sys2Proof.Safety

/-! Writes of a global word (R150 to R162) -/

theorem effect_wordWriter (w : GlobalWord) (op : BitsetOp) (v : Word) :
    effect (wordWriter w op v) = .word w op v := by
  cases w <;> cases op <;> rfl

theorem exec_wordWriter (w : GlobalWord) (op : BitsetOp) (v : Word) (s : State) :
    exec (wordWriter w op v) s = .next (globalWrite Config.params w op v s) := by
  rw [exec_eq_run, effect_wordWriter, Effect.run]

/-- The word takes its combined value, every channel and then the lines are recomputed. -/
theorem exec_wordWriter_eq_withLines (w : GlobalWord) (op : BitsetOp) (v : Word) (s : State) :
    exec (wordWriter w op v) s =
      .next (withLines Config.params (withAllChannels (s.setWord w (op.apply (s.word w) v)))) := by
  rw [exec_wordWriter, globalWrite_eq]

theorem decode_globalWriteLabel (g : TcuGlobalReg) (v : Word) :
    decode ⟨BitVec.ofNat 20 (0x62000 + g.offset), v⟩ = .wrTcuGlobal g v := by
  have offset : (BitVec.ofNat 12 g.offset).toNat = g.offset := by cases g <;> rfl
  have label := decode_tcuWriteLabel (BitVec.ofNat 12 g.offset) v
  rw [offset] at label
  exact label.trans (encodes_wrTcuGlobal g v).decode_eq

/-- Settles O24: four words, three ways of combining, and the labels of the twelve registers. -/
theorem tcuGlobalWriteResult : Obligations.TcuGlobalWriteResult := by
  intro v s
  have write (w : GlobalWord) (op : BitsetOp) := exec_wordWriter_eq_withLines w op v s
  have label (g : TcuGlobalReg) := decode_globalWriteLabel g v
  exact ⟨write .enable .whole, write .enable .set, write .enable .clr,
    write .stop .whole, write .stop .set, write .stop .clr,
    write .flag .whole, write .flag .set, write .flag .clr,
    write .mask .whole, write .mask .set, write .mask .clr,
    label .enable, label .enableSet, label .enableClr, label .stop, label .stopSet, label .stopClr,
    label .flag, label .flagSet, label .flagClr, label .mask, label .maskSet, label .maskClr⟩

/-! Set and clear writes as whole-word writes (R169, R62) -/

theorem exec_wordWriter_eq_whole (w : GlobalWord) (op : BitsetOp) (v : Word) (s : State) :
    exec (wordWriter w op v) s = exec (wordWriter w .whole (op.apply (s.word w) v)) s := by
  rw [exec_wordWriter, exec_wordWriter]
  rfl

theorem exec_intcMaskWriter_eq_whole (op : BitsetOp) (b : Bank) (v : Word) (s : State) :
    exec (intcMaskWriter op b v) s = exec (intcMaskWriter .whole b (op.apply (s.bank b).mask v)) s := by
  rw [exec_intcMaskWriter, exec_intcMaskWriter]
  rfl

/-- Settles O42: both writes recompute the same combined word. -/
theorem setAndClearAreWholeWordWrites : Obligations.SetAndClearAreWholeWordWrites := by
  intro v s
  have whole (w : GlobalWord) (op : BitsetOp) := exec_wordWriter_eq_whole w op v s
  exact ⟨whole .enable .set, whole .enable .clr, whole .stop .set, whole .stop .clr,
    whole .flag .set, whole .flag .clr, whole .mask .set, whole .mask .clr,
    fun b => ⟨exec_intcMaskWriter_eq_whole .set b v s, exec_intcMaskWriter_eq_whole .clr b v s⟩⟩

/-! Reads of a global register (R163 to R167) -/

/-- Settles O22: the effect of each is the read of its word. -/
theorem tcuGlobalReadsAnswerTheWord : Obligations.TcuGlobalReadsAnswerTheWord :=
  fun s => ⟨exec_eq_run .rdTcuEnable s, exec_eq_run .rdTcuStop s, exec_eq_run .rdTcuFlag s,
    exec_eq_run .rdTcuMask s⟩

/-- Settles O23: the effect of each is a diagnosed read at the register's offset. -/
theorem tcuWriteOnlyReadsAnswerZero : Obligations.TcuWriteOnlyReadsAnswerZero :=
  fun s => ⟨exec_eq_run .rdTcuEnableSet s, exec_eq_run .rdTcuEnableClr s, exec_eq_run .rdTcuFlagSet s,
    exec_eq_run .rdTcuFlagClr s, exec_eq_run .rdTcuStopSet s, exec_eq_run .rdTcuMaskSet s,
    exec_eq_run .rdTcuMaskClr s, exec_eq_run .rdTcuStopClr s⟩

/-! The flags that a recompute sets (R168, R180, R181) -/

/-- Bit `n` of the flag word is a flag of channel `c` whose condition holds. -/
def RaisesFlag (s : State) (c : Chan) (n : Nat) : Prop :=
  (n = c.index ∧ Overflows s c) ∨ (n = 16 + c.index ∧ HalfOverflows s c)

theorem raisesFlag_congr {s t : State} {c : Chan} (h : s.chan c = t.chan c) (n : Nat) :
    RaisesFlag s c n ↔ RaisesFlag t c n := by
  simp only [RaisesFlag, Overflows, HalfOverflows, h]

theorem getLsbD_ite_bit (p : Prop) [Decidable p] (k : Nat) {n : Nat} (hn : n < 32) :
    (if p then bit k else 0#32).getLsbD n = true ↔ n = k ∧ p := by
  split
  · next h => simp only [bit_getLsbD k n hn, decide_eq_true_eq, h, and_true]
  · next h => simp only [BitVec.getLsbD_zero, Bool.false_eq_true, h, and_false]

theorem chanRecompute_flag_iff (c : Chan) (s : State) {n : Nat} (hn : n < 32) :
    (chanRecompute c s).flag.getLsbD n = true ↔ s.flag.getLsbD n = true ∨ RaisesFlag s c n := by
  rw [chanRecompute_eq]
  simp only [withChannel, BitVec.getLsbD_or, Bool.or_eq_true, getLsbD_ite_bit _ _ hn]
  exact or_assoc.trans (or_congr_right or_comm)

theorem Reloaded.count_le {r r' : Channel} (h : Reloaded r r') : r'.count ≤ r.count := by
  obtain same | ⟨zero, -⟩ := h.count
  · exact BitVec.le_of_eq same
  · rw [zero]; exact Nat.zero_le _

/-- A reload can only end a condition. -/
theorem raisesFlag_of_reloaded {s t : State} {c : Chan} {n : Nat} (r : Reloaded (s.chan c) (t.chan c))
    (h : RaisesFlag t c n) : RaisesFlag s c n := by
  obtain ⟨flag, full⟩ | ⟨flag, timer, half⟩ := h
  · exact .inl ⟨flag, BitVec.le_trans (r.full ▸ full) r.count_le⟩
  · exact .inr ⟨flag, timer, BitVec.le_trans (r.half ▸ half) r.count_le⟩

/-- The recomputes of a list of channels add the flags whose condition held before the first: a recompute
leaves the other channels' conditions as they are, and its own channel's flags are then set already. -/
theorem recomputeList_flag_iff (cs : List Chan) (s : State) {n : Nat} (hn : n < 32) :
    (recomputeList cs s).flag.getLsbD n = true ↔
      s.flag.getLsbD n = true ∨ ∃ c ∈ cs, RaisesFlag s c n := by
  induction cs generalizing s with
  | nil => simp only [recomputeList, List.not_mem_nil, false_and, exists_false, or_false]
  | cons c cs ih =>
    rw [recomputeList, ih, chanRecompute_flag_iff c s hn, List.exists_mem_cons_iff, or_assoc]
    refine or_congr_right ⟨?_, ?_⟩
    · rintro (first | ⟨d, hd, later⟩)
      · exact .inl first
      · exact .inr ⟨d, hd, raisesFlag_of_reloaded (reloaded_chanRecompute c d s) later⟩
    · rintro (first | ⟨d, hd, later⟩)
      · exact .inl first
      · by_cases same : d = c
        · exact .inl (same ▸ later)
        · exact .inr ⟨d, hd, (raisesFlag_congr (chan_chanRecompute_ne c d s same) n).mpr later⟩

theorem recomputeAll_flag_iff (s : State) {n : Nat} (hn : n < 32) :
    (recomputeAll s).flag.getLsbD n = true ↔ s.flag.getLsbD n = true ∨ ∃ c, RaisesFlag s c n := by
  have every (c : Chan) : c ∈ Chan.all := by cases c <;> decide
  simp only [recomputeAll, recomputeList_flag_iff _ s hn, every, true_and]

/-- A flag write leaves the flags of the combined word and those whose condition held before. -/
theorem flagWrite_flag_iff (P : Params) (op : BitsetOp) (v : Word) (s : State) {n : Nat} (hn : n < 32) :
    (globalWrite P .flag op v s).flag.getLsbD n = true ↔
      (op.apply s.flag v).getLsbD n = true ∨ ∃ c, RaisesFlag s c n :=
  recomputeAll_flag_iff (s.setWord .flag (op.apply s.flag v)) hn

theorem getLsbD_apply_set_iff (old v : Word) (n : Nat) :
    (BitsetOp.set.apply old v).getLsbD n = true ↔ old.getLsbD n = true ∨ v.getLsbD n = true := by
  rw [BitsetOp.apply, BitVec.getLsbD_or, Bool.or_eq_true]

theorem getLsbD_apply_clr_iff (old v : Word) {n : Nat} (hn : n < 32) :
    (BitsetOp.clr.apply old v).getLsbD n = true ↔ old.getLsbD n = true ∧ v.getLsbD n = false := by
  simp only [BitsetOp.apply, BitVec.getLsbD_and, BitVec.getLsbD_not, hn, decide_true, Bool.true_and,
    Bool.and_eq_true, Bool.not_eq_true']

/-- Settles O41: `flagWrite_flag_iff` for the three ways of combining. -/
theorem flagWriteSetsHoldingConditionsAgain : Obligations.FlagWriteSetsHoldingConditionsAgain := by
  intro v s n hn again
  have raised : (∃ c, RaisesFlag s c n) ↔ again := exists_or
  have written (op : BitsetOp) := flagWrite_flag_iff Config.params op v s hn
  rw [raised] at written
  exact ⟨_, _, _, exec_wordWriter .flag .whole v s, exec_wordWriter .flag .set v s,
    exec_wordWriter .flag .clr v s, written .whole,
    (written .set).trans (or_congr_left (getLsbD_apply_set_iff s.flag v n)),
    (written .clr).trans (or_congr_left (getLsbD_apply_clr_iff s.flag v hn))⟩

end Sys2Proof.Proofs
end

section
/-! SUPPORT. The statements of 43_tcu_tick.md: the line recompute bit by bit, what an operation can do to the
flags, which updates of two channels commute, and the ticks of a period. -/
namespace Sys2Proof.Proofs
open Sys2Proof.Machine Sys2Proof.Safety

/-! The lines (R182 to R186) -/

/-- Two words share a bit: the test that a bank's output makes of its source and mask (R100). -/
theorem and_ne_zero_iff (v w : Word) :
    v &&& w ≠ 0#32 ↔ ∃ n, w.getLsbD n = true ∧ v.getLsbD n = true := by
  have output := irqOut_bankOf_iff v (~~~w)
  simp only [bankOf, BitVec.not_not, decide_eq_true_eq] at output
  refine output.trans (exists_congr fun n => and_comm.trans (and_congr_left fun set => ?_))
  rw [BitVec.getLsbD_not, decide_eq_true (BitVec.lt_of_getLsbD set), Bool.true_and, Bool.not_eq_false']

/-- What holds of the 32 bits of a word, and of no index past them, says which bits are set. -/
theorem getLsbD_iff_of_lt {w : Word} {p : Nat → Prop} (low : ∀ n < 32, w.getLsbD n = true ↔ p n)
    (high : ∀ n, p n → n < 32) (n : Nat) : w.getLsbD n = true ↔ p n :=
  ⟨fun h => (low n (BitVec.lt_of_getLsbD h)).mp h, fun h => (low n (high n h)).mpr h⟩

/-- The OS timer's overflow flag (R183). -/
theorem lineBits_l0_iff (n : Nat) : (lineBits .l0).getLsbD n = true ↔ n = 15 :=
  getLsbD_iff_of_lt (p := fun n => n = 15) (by decide) (fun n h => by omega) n

/-- The two flags of channel 5 (R184). -/
theorem lineBits_l1_iff (n : Nat) : (lineBits .l1).getLsbD n = true ↔ n = 5 ∨ n = 21 :=
  getLsbD_iff_of_lt (p := fun n => n = 5 ∨ n = 21) (by decide) (fun n h => by omega) n

/-- The channels whose flags line 2 carries (R185). -/
abbrev OnLine2 (m : Nat) : Prop := m = 0 ∨ m = 1 ∨ m = 2 ∨ m = 3 ∨ m = 4 ∨ m = 6 ∨ m = 7

/-- The two flags of each channel of line 2 (R185). -/
theorem lineBits_l2_iff (n : Nat) :
    (lineBits .l2).getLsbD n = true ↔ OnLine2 n ∨ (16 ≤ n ∧ OnLine2 (n - 16)) :=
  getLsbD_iff_of_lt (p := fun n => OnLine2 n ∨ (16 ≤ n ∧ OnLine2 (n - 16))) (by decide)
    (fun n h => by omega) n

/-- A line is high where one of its flags is set and unmasked (R182). -/
theorem lineOf_linesRecompute_iff (P : Params) (s : State) (k : Line) :
    (linesRecompute P s).lineOf k = true ↔
      ∃ n, (lineBits k).getLsbD n = true ∧ (s.flag &&& ~~~s.mask).getLsbD n = true := by
  have level : (linesRecompute P s).lineOf k = decide ((s.flag &&& ~~~s.mask) &&& lineBits k ≠ 0#32) := by
    rw [linesRecompute_eq]
    cases k <;> rfl
  rw [level, decide_eq_true_eq, and_ne_zero_iff]

/-- Settles O35: `lineOf_linesRecompute_iff`, with the bits of each line's word. -/
theorem linesAreTheStaticGrouping : Obligations.LinesAreTheStaticGrouping := by
  intro P s
  refine ⟨?_, ?_, ?_, rfl, rfl, rfl⟩
  · have level : (linesRecompute P s).line.l0 = true ↔ _ := lineOf_linesRecompute_iff P s .l0
    simpa only [lineBits_l0_iff, exists_eq_left] using level
  · have level : (linesRecompute P s).line.l1 = true ↔ _ := lineOf_linesRecompute_iff P s .l1
    simpa only [lineBits_l1_iff, or_and_right, exists_or, exists_eq_left] using level
  · refine (lineOf_linesRecompute_iff P s .l2).trans ⟨?_, ?_⟩
    · rintro ⟨n, flag, set⟩
      obtain overflow | ⟨ge, half⟩ := (lineBits_l2_iff n).mp flag
      · exact ⟨n, overflow, .inl set⟩
      · exact ⟨n - 16, half, .inr (by rwa [Nat.add_sub_cancel' ge])⟩
    · rintro ⟨m, hm, overflow | half⟩
      · exact ⟨m, (lineBits_l2_iff m).mpr (.inl hm), overflow⟩
      · exact ⟨16 + m, (lineBits_l2_iff _).mpr (.inr ⟨by omega, by rwa [Nat.add_sub_cancel_left]⟩), half⟩

/-- An input that no line is wired to keeps its level. -/
theorem getLsbD_wired_of_ne {P : Params} {i : Nat} (h0 : i ≠ P.irqSrc0.val) (h1 : i ≠ P.irqSrc1.val)
    (h2 : i ≠ P.irqSrc2.val) (w : Word) (l : Lines) : (wired P w l).getLsbD i = w.getLsbD i := by
  by_cases hi : i < 32
  · simp only [wired, withBit_getLsbD _ _ _ _ hi, h0, h1, h2, if_false]
  · rw [BitVec.getLsbD_of_ge _ _ (by omega), BitVec.getLsbD_of_ge _ _ (by omega)]

/-- Settles O36: the wired inputs by `withLines_wires`, the others by `getLsbD_wired_of_ne`; bank 0 is the
recomputed bank of its source and mask. -/
theorem linesDriveTheirInputs : Obligations.LinesDriveTheirInputs := by
  intro P s hP t
  obtain ⟨w0, w1, w2⟩ := withLines_wires P s hP
  rw [← linesRecompute_eq] at w0 w1 w2
  have intc : t.intc = { s.intc with b0 := bankOf (wired P s.intc.b0.source t.line) s.intc.b0.mask } :=
    linesRecompute_intc P s
  refine ⟨w0, w1, w2, ?_⟩
  rw [intc]
  exact ⟨fun i h0 h1 h2 => getLsbD_wired_of_ne h0 h1 h2 _ _, rfl, rfl, decide_eq_true_iff, rfl⟩

/-! The tick as a channel write (R187) -/

/-- A channel's record with its count advanced, if enabled, and its next tick scheduled. -/
def tickRecord (P : Params) (enabled : Bool) (r : Channel) : Channel :=
  { r with count := if enabled then r.count + P.tickIncrement else r.count, tickArmed := true }

theorem autoReload_rearmed (r : Channel) :
    autoReload { r with tickArmed := true } = { autoReload r with tickArmed := true } := by
  unfold autoReload
  split <;> rfl

theorem rearm_linesRecompute (P : Params) (c : Chan) (s : State) :
    rearm c (linesRecompute P s) = linesRecompute P (rearm c s) := by
  rw [rearm, chan_congr _ s c (linesRecompute_ch P s)]
  rfl

/-- No recompute reads the tick's handle. -/
theorem rearm_chanRecompute (c : Chan) (s : State) :
    rearm c (chanRecompute c s) = chanRecompute c (rearm c s) := by
  calc rearm c (chanRecompute c s)
      = { (s.setChan c (autoReload (s.chan c))).setChan c { autoReload (s.chan c) with tickArmed := true } with
          flag := s.flag ||| halfFlag c (s.chan c) ||| overFlag c (s.chan c) } := by
        rw [rearm, chan_chanRecompute_same]
        rfl
    _ = chanRecompute c (rearm c s) := by
        rw [setChan_setChan, ← autoReload_rearmed]
        simp only [chanRecompute, rearm, chan_setChan_same, setChan_setChan]
        rfl

theorem rearm_countTick (P : Params) (c : Chan) (s : State) :
    rearm c (countTick P c s) = s.setChan c (tickRecord P (isEnabled c s.enable) (s.chan c)) := by
  unfold countTick tickRecord
  split
  · simp only [rearm, chan_setChan_same, setChan_setChan]
  · rfl

theorem tick_eq_channelWrite (P : Params) (c : Chan) (s : State) :
    tick P c s = channelWrite P c (tickRecord P (isEnabled c s.enable)) s := by
  rw [tick, rearm_linesRecompute, rearm_chanRecompute, rearm_countTick, channelWrite]

theorem exec_tickAt (c : Chan) (s : State) : exec (.tickAt c) s = .next (tick Config.params c s) := by
  cases c <;> rfl

/-- Settles O10: a tick is a channel write of the advanced record. -/
theorem tickResult : Obligations.TickResult := by
  intro c s K r n
  rw [exec_tickAt, tick_eq_channelWrite, channelWrite_eq]
  rfl

/-! Who sets and clears flags (R190, R192) -/

/-- `new` has the flags of `old`, and besides them only flags of channels. -/
structure FlagsRaised (old new : Word) : Prop where
  kept {n : Nat} : old.getLsbD n = true → new.getLsbD n = true
  added {n : Nat} : new.getLsbD n = true → old.getLsbD n = true ∨ (0x00FF80FF#32).getLsbD n = true

theorem FlagsRaised.refl (w : Word) : FlagsRaised w w := ⟨id, .inl⟩

/-- A flag that a channel can raise is one of `0x00FF_80FF`. -/
theorem channelFlag_of_raisesFlag {s : State} {c : Chan} {n : Nat} (h : RaisesFlag s c n) :
    (0x00FF80FF#32).getLsbD n = true := by
  obtain ⟨rfl, -⟩ | ⟨rfl, timer, -⟩ := h
  · cases c <;> decide
  · cases c with
    | ost => exact absurd rfl timer
    | _ => decide

theorem flagsRaised_recomputeList (cs : List Chan) (s : State) :
    FlagsRaised s.flag (recomputeList cs s).flag where
  kept h := (recomputeList_flag_iff cs s (BitVec.lt_of_getLsbD h)).mpr (.inl h)
  added h := ((recomputeList_flag_iff cs s (BitVec.lt_of_getLsbD h)).mp h).imp_right
    fun ⟨_, _, raised⟩ => channelFlag_of_raisesFlag raised

/-- The flag word as an effect stores it, before any recompute. -/
def Effect.storedFlag (e : Effect) (s : State) : Word :=
  match e with
  | .reset => 0#32
  | .word .flag op v => op.apply s.flag v
  | _ => s.flag

theorem setWord_flag (s : State) (w : GlobalWord) (op : BitsetOp) (v : Word) :
    (s.setWord w (op.apply (s.word w) v)).flag = (Effect.word w op v).storedFlag s := by
  cases w <;> rfl

/-- A step leaves the flags that its effect stored, and adds flags of channels alone. -/
theorem flagsRaised_of_run {e : Effect} {s t : State} (h : e.run s = .next t) :
    FlagsRaised (e.storedFlag s) t.flag := by
  cases e with
  | tick c =>
    cases h
    rw [tick_eq_channelWrite]
    exact flagsRaised_recomputeList [c] (s.setChan c _)
  | request lv idx => obtain ⟨-, rfl⟩ | ⟨b, -, rfl⟩ := request_eq_next h <;> exact .refl _
  | refuse r => cases h
  | read r => cases h; cases r <;> exact .refl _
  | reset | drop | emit | logCgu | intcMask => cases h; exact .refl _
  | channel c f v => cases h; exact flagsRaised_recomputeList [c] (s.setChan c _)
  | word w op v =>
    cases h
    rw [← setWord_flag]
    exact flagsRaised_recomputeList Chan.all _

/-- Settles O39: what is no whole or clear write of the flags and no RESET stores every flag that is set. -/
theorem flagsAreSticky : Obligations.FlagsAreSticky := by
  intro i s t n h whole clr reset set
  rw [exec_eq_run] at h
  refine (flagsRaised_of_run h).kept ?_
  cases he : effect i with
  | reset => exact absurd (eq_reset_of_effect i he) reset
  | word w op v =>
    have hi := eq_wordWriter_of_effect i w op v he
    cases w with
    | flag =>
      cases op with
      | whole => exact absurd hi (whole v)
      | set => exact (getLsbD_apply_set_iff s.flag v n).mpr (.inl set)
      | clr => exact absurd hi (clr v)
    | enable | stop | mask => exact set
  | _ => exact set

/-- Settles O40: what is no whole or set write of the flags stores no flag that is clear. -/
theorem hardwareSetsOnlyChannelFlags : Obligations.HardwareSetsOnlyChannelFlags := by
  intro i s t n h whole set clear raised
  rw [exec_eq_run] at h
  refine ((flagsRaised_of_run h).added raised).resolve_left ?_
  rw [Bool.not_eq_true]
  cases he : effect i with
  | reset => exact BitVec.getLsbD_zero
  | word w op v =>
    have hi := eq_wordWriter_of_effect i w op v he
    cases w with
    | flag =>
      cases op with
      | whole => exact absurd hi (whole v)
      | set => exact absurd hi (set v)
      | clr => exact (BitVec.getLsbD_and ..).trans (by rw [clear, Bool.false_and])
    | enable | stop | mask => exact clear
  | _ => exact clear

/-! Updates of two channels (R181, R189) -/

/-- Channel `c` given a new record and recomputed: what a channel write and a tick do before the lines. -/
def updateChan (c : Chan) (f : Channel → Channel) (s : State) : State :=
  chanRecompute c (s.setChan c (f (s.chan c)))

theorem channelWrite_eq_updateChan (P : Params) (c : Chan) (f : Channel → Channel) (s : State) :
    channelWrite P c f s = linesRecompute P (updateChan c f s) := rfl

theorem chanRecompute_eq_updateChan (c : Chan) (s : State) : chanRecompute c s = updateChan c id s := by
  rw [updateChan, id, setChan_chan]

theorem updateChan_eq (c : Chan) (f : Channel → Channel) (s : State) :
    updateChan c f s = { s.setChan c (autoReload (f (s.chan c))) with
      flag := s.flag ||| halfFlag c (f (s.chan c)) ||| overFlag c (f (s.chan c)) } := by
  simp only [updateChan, chanRecompute, chan_setChan_same, setChan_setChan, setChan_flag]

theorem chan_updateChan_ne (c d : Chan) (f : Channel → Channel) (s : State) (h : d ≠ c) :
    (updateChan c f s).chan d = s.chan d := by
  rw [updateChan, chan_chanRecompute_ne c d _ h, chan_setChan_ne s c d _ h]

/-- Updates of different channels commute: each sets its own record, and the flags are ORed. -/
theorem updateChan_comm {c d : Chan} (h : c ≠ d) (f g : Channel → Channel) (s : State) :
    updateChan d g (updateChan c f s) = updateChan c f (updateChan d g s) := by
  rw [updateChan_eq d g, chan_updateChan_ne c d f s h.symm, updateChan_eq c f (updateChan d g s),
    chan_updateChan_ne d c g s h, updateChan_eq c f s, updateChan_eq d g s]
  generalize f (s.chan c) = q, g (s.chan d) = r
  have records := setChan_comm s c d (autoReload q) (autoReload r) h
  have flags : s.flag ||| halfFlag c q ||| overFlag c q ||| halfFlag d r ||| overFlag d r =
      s.flag ||| halfFlag d r ||| overFlag d r ||| halfFlag c q ||| overFlag c q := by ac_rfl
  calc _ = { (s.setChan c (autoReload q)).setChan d (autoReload r) with
            flag := s.flag ||| halfFlag c q ||| overFlag c q ||| halfFlag d r ||| overFlag d r } := rfl
    _ = { (s.setChan d (autoReload r)).setChan c (autoReload q) with
            flag := s.flag ||| halfFlag d r ||| overFlag d r ||| halfFlag c q ||| overFlag c q } := by
      rw [records, flags]
    _ = _ := rfl

theorem chanRecompute_comm (c d : Chan) (s : State) :
    chanRecompute d (chanRecompute c s) = chanRecompute c (chanRecompute d s) := by
  by_cases h : c = d
  · rw [h]
  · simp only [chanRecompute_eq_updateChan, updateChan_comm h]

theorem recomputeList_perm {cs ds : List Chan} (h : cs.Perm ds) (s : State) :
    recomputeList cs s = recomputeList ds s := by
  induction h generalizing s with
  | nil => rfl
  | cons c _ ih => exact ih _
  | swap c d cs => simp only [recomputeList, chanRecompute_comm c d]
  | trans _ _ ih₁ ih₂ => exact (ih₁ s).trans (ih₂ s)

/-- Settles O44: recomputes of two channels commute, so a permutation changes nothing. -/
theorem recomputeOrderDoesNotMatter : Obligations.RecomputeOrderDoesNotMatter :=
  fun _ s h => recomputeList_perm h s

/-- Of two drives of the wired inputs the last counts. -/
theorem wired_wired (P : Params) (w : Word) (l m : Lines) : wired P (wired P w l) m = wired P w m := by
  refine BitVec.eq_of_getLsbD_eq fun j hj => ?_
  simp only [wired, withBit_getLsbD _ _ _ _ hj]
  split_ifs <;> rfl

/-- A line recompute does not depend on the levels that an earlier one left on the lines and their inputs. -/
theorem linesRecompute_of_driven (P : Params) (s : State) (l : Lines) :
    linesRecompute P { s with
      line := l, intc := { s.intc with b0 := bankOf (wired P s.intc.b0.source l) s.intc.b0.mask } } =
    linesRecompute P s := by
  generalize hu : ({ s with
    line := l, intc := { s.intc with b0 := bankOf (wired P s.intc.b0.source l) s.intc.b0.mask } } : State) = u
  have line : (linesRecompute P u).line = (linesRecompute P s).line := by subst hu; rfl
  have intc : (linesRecompute P u).intc = (linesRecompute P s).intc := by
    rw [linesRecompute_intc, linesRecompute_intc, line, ← hu]
    simp only [bankOf, wired_wired]
  calc linesRecompute P u
      = { u with line := (linesRecompute P u).line, intc := (linesRecompute P u).intc } := rfl
    _ = { s with line := (linesRecompute P s).line, intc := (linesRecompute P s).intc } := by
      rw [line, intc, ← hu]
    _ = linesRecompute P s := rfl

/-- A channel's update neither reads nor writes the lines and the banks. -/
theorem updateChan_of_driven (c : Chan) (f : Channel → Channel) (s : State) (l : Lines) (b : Banks) :
    updateChan c f { s with line := l, intc := b } = { updateChan c f s with line := l, intc := b } := by
  cases c <;> rfl

theorem linesRecompute_updateChan_linesRecompute (P : Params) (c : Chan) (f : Channel → Channel) (s : State) :
    linesRecompute P (updateChan c f (linesRecompute P s)) = linesRecompute P (updateChan c f s) := by
  have driven : linesRecompute P s = { s with
      line := (linesRecompute P s).line, intc := (linesRecompute P s).intc } := rfl
  rw [driven, updateChan_of_driven, linesRecompute_intc]
  exact linesRecompute_of_driven P (updateChan c f s) _

theorem channelWrite_comm (P : Params) {c d : Chan} (h : c ≠ d) (f g : Channel → Channel) (s : State) :
    channelWrite P d g (channelWrite P c f s) = channelWrite P c f (channelWrite P d g s) := by
  simp only [channelWrite_eq_updateChan, linesRecompute_updateChan_linesRecompute, updateChan_comm h]

theorem tick_enable (P : Params) (c : Chan) (s : State) : (tick P c s).enable = s.enable := by
  rw [tick_eq_channelWrite]
  rfl

/-- Settles O45: two channel writes, whose records depend on their own channel and on the enable word. -/
theorem ticksOfTwoChannelsCommute : Obligations.TicksOfTwoChannelsCommute := by
  intro c d s sc sd t u hcd hc hcd' hd hdc
  rw [exec_tickAt] at hc hcd' hd hdc
  cases hc; cases hcd'; cases hd; cases hdc
  rw [tick_eq_channelWrite _ d, tick_enable, tick_eq_channelWrite _ c, tick_eq_channelWrite _ c (tick _ d s),
    tick_enable, tick_eq_channelWrite _ d]
  exact channelWrite_comm _ hcd _ _ s

/-! The overflow period (R193) -/

/-- `t` is `s` after an enabled tick of channel `c` that brings its count to `N` before the reload. -/
structure TickedTo (c : Chan) (N : Nat) (s t : State) : Prop where
  count : (t.chan c).count.toNat = if (s.chan c).full.toNat ≤ N then 0 else N
  overflow : t.flag.getLsbD c.index = true ↔ s.flag.getLsbD c.index = true ∨ (s.chan c).full.toNat ≤ N
  half : t.flag.getLsbD (16 + c.index) = true ↔
    s.flag.getLsbD (16 + c.index) = true ∨ (c ≠ .ost ∧ (s.chan c).half.toNat ≤ N)
  enable : t.enable = s.enable
  fullReg : (t.chan c).full = (s.chan c).full
  halfReg : (t.chan c).half = (s.chan c).half

theorem chan_tick_same (P : Params) (c : Chan) (s : State) :
    (tick P c s).chan c = autoReload (tickRecord P (isEnabled c s.enable) (s.chan c)) := by
  rw [tick_eq_channelWrite, channelWrite, chan_congr _ _ c (linesRecompute_ch P _), chan_chanRecompute_same,
    chan_setChan_same]

theorem tick_flag_iff (P : Params) (c : Chan) (s : State) {n : Nat} (hn : n < 32) :
    (tick P c s).flag.getLsbD n = true ↔ s.flag.getLsbD n = true ∨
      RaisesFlag (s.setChan c (tickRecord P (isEnabled c s.enable) (s.chan c))) c n := by
  rw [tick_eq_channelWrite]
  exact chanRecompute_flag_iff c (s.setChan c _) hn

theorem raisesFlag_over_iff (s : State) (c : Chan) : RaisesFlag s c c.index ↔ Overflows s c := by
  have distinct : c.index ≠ 16 + c.index := by omega
  simp only [RaisesFlag, true_and, distinct, false_and, or_false]

theorem raisesFlag_half_iff (s : State) (c : Chan) : RaisesFlag s c (16 + c.index) ↔ HalfOverflows s c := by
  have distinct : 16 + c.index ≠ c.index := by omega
  simp only [RaisesFlag, true_and, distinct, false_and, false_or]

theorem toNat_count_autoReload (r : Channel) :
    (autoReload r).count.toNat = if r.full.toNat ≤ r.count.toNat then 0 else r.count.toNat := by
  simp only [autoReload, BitVec.le_def]
  split <;> rfl

/-- An enabled tick whose sum does not wrap. -/
theorem tickedTo_tick {P : Params} {c : Chan} {s : State} {N : Nat}
    (en : s.enable.getLsbD c.index = true) (reached : (s.chan c).count.toNat + P.tickIncrement.toNat = N)
    (noWrap : N < 2 ^ 32) : TickedTo c N s (tick P c s) := by
  have enabled : isEnabled c s.enable = true := en
  have chan := chan_tick_same P c s
  have flag {n : Nat} (hn : n < 32) := tick_flag_iff P c s hn
  rw [enabled] at chan flag
  have settled := reloaded_autoReload (tickRecord P true (s.chan c))
  have count : (tickRecord P true (s.chan c)).count.toNat = N := by
    calc _ = ((s.chan c).count.toNat + P.tickIncrement.toNat) % 2 ^ 32 := BitVec.toNat_add ..
      _ = N := by rw [reached, Nat.mod_eq_of_lt noWrap]
  have hc := c.index_lt
  have ticked := chan_setChan_same s c (tickRecord P true (s.chan c))
  refine ⟨?_, ?_, ?_, tick_enable P c s, chan ▸ settled.full, chan ▸ settled.half⟩
  · rw [chan, toNat_count_autoReload, count]
    rfl
  · rw [flag (by omega), raisesFlag_over_iff, Overflows, ticked, BitVec.le_def, count]
    rfl
  · rw [flag (by omega), raisesFlag_half_iff, HalfOverflows, ticked, BitVec.le_def, count]
    rfl

/-- The number of ticks in a period: the first multiple of `K` at or past `F`. -/
theorem periodTicks_le_iff {F K : Nat} (hK : 1 ≤ K) (m : Nat) : (F + K - 1) / K ≤ m ↔ F ≤ m * K := by
  rw [← Nat.ceilDiv_eq_add_pred_div, ceilDiv_le_iff_le_mul hK, Nat.mul_comm]

/-- `t` is the state after tick `n` of a period of `T` ticks that began in `s`. -/
structure InPeriod (c : Chan) (H K T n : Nat) (s t : State) : Prop where
  count : (t.chan c).count.toNat = if n < T then n * K else 0
  overflow : t.flag.getLsbD c.index = true ↔ s.flag.getLsbD c.index = true ∨ n = T
  half : t.flag.getLsbD (16 + c.index) = true ↔
    s.flag.getLsbD (16 + c.index) = true ∨ (c ≠ .ost ∧ ∃ m, 1 ≤ m ∧ m ≤ n ∧ H ≤ m * K)
  enable : t.enable = s.enable
  fullReg : (t.chan c).full = (s.chan c).full
  halfReg : (t.chan c).half = (s.chan c).half

theorem inPeriod_zero {c : Chan} {s : State} (H K : Nat) {T : Nat} (hT : 0 < T)
    (zero : (s.chan c).count = 0#32) : InPeriod c H K T 0 s s where
  count := by simp [zero]
  overflow := by simp [hT.ne]
  half := by
    refine ⟨.inl, fun h => h.resolve_right ?_⟩
    rintro ⟨-, m, one, none, -⟩
    omega
  enable := rfl
  fullReg := rfl
  halfReg := rfl

/-- The next tick: it counts to `(n + 1) * K`, which reaches `full` when it is the last. -/
theorem InPeriod.succ {c : Chan} {F H K T n : Nat} {s t u : State} (h : InPeriod c H K T n s t)
    (full : (s.chan c).full.toNat = F) (half : (s.chan c).half.toNat = H)
    (period : ∀ m, T ≤ m ↔ F ≤ m * K) (hn : n + 1 ≤ T) (ticked : TickedTo c ((n + 1) * K) t u) :
    InPeriod c H K T (n + 1) s u := by
  have last : F ≤ (n + 1) * K ↔ n + 1 = T := by
    rw [← period]
    omega
  refine ⟨?_, ?_, ?_, ticked.enable.trans h.enable, ticked.fullReg.trans h.fullReg,
    ticked.halfReg.trans h.halfReg⟩
  · rw [ticked.count, h.fullReg, full]
    split_ifs <;> omega
  · have before : n ≠ T := by omega
    rw [ticked.overflow, h.overflow, h.fullReg, full, last]
    simp only [before, or_false]
  · rw [ticked.half, h.half, h.halfReg, half, or_assoc, ← and_or_left]
    refine or_congr_right (and_congr_right fun _ => ⟨?_, ?_⟩)
    · rintro (⟨m, one, le, reached⟩ | reached)
      · exact ⟨m, one, by omega, reached⟩
      · exact ⟨n + 1, by omega, le_rfl, reached⟩
    · rintro ⟨m, one, le, reached⟩
      obtain le | rfl := Nat.le_succ_iff.mp le
      · exact .inl ⟨m, one, le, reached⟩
      · exact .inr reached

theorem ticks_eq_tickMany (c : Chan) (n : Nat) (s : State) :
    ticks c n s = .next (tickMany Config.params c n s) := by
  induction n with
  | zero => rfl
  | succ n ih => rw [ticks, ih, tickMany]; exact exec_tickAt c _

/-- Settles O53: the period by induction on its ticks. The sum cannot wrap, since the count before a tick is
below `full`. -/
theorem overflowPeriod : Obligations.OverflowPeriod := by
  intro P c s F H K n inc hK noWrap full hF narrow half en zero hn t
  have period (m : Nat) := periodTicks_le_iff (F := F) hK m
  generalize (F + K - 1) / K = T at hn period ⊢
  have hT : 0 < T := by
    have := period 0
    omega
  have run : InPeriod c H K T n s (tickMany P c n s) := by
    induction n with
    | zero => exact inPeriod_zero H K hT zero
    | succ n ih =>
      have before := ih (by omega)
      have below : n * K < F := by
        have := period n
        omega
      have count : (((tickMany P c n s).chan c).count).toNat = n * K :=
        before.count.trans (if_pos hn)
      refine before.succ full half period hn (tickedTo_tick ?_ ?_ ?_)
      · rw [before.enable]; exact en
      · rw [count, inc, Nat.succ_mul]
      · rw [Nat.succ_mul]; omega
  exact ⟨run.count, run.overflow, run.half, run.enable, run.fullReg, run.halfReg,
    fun hP => by subst hP; exact ticks_eq_tickMany c n s⟩

end Sys2Proof.Proofs
end

section
/-! SUPPORT. The statements of 60_exceptions.md: which operations complete, and the path of a TCU flag to
bank 0's output line. -/
namespace Sys2Proof.Proofs
open Sys2Proof.Machine Sys2Proof.Safety

/-! Completion (R200) -/

/-- A request is refused only at an input that a TCU line drives (R101 c). -/
theorem request_completes_or_driven (P : Params) (lv : Bool) (idx : BitVec 8) (s : State) :
    (∃ t, request P lv idx s = .next t) ∨ ∃ k, idx.toNat = (lineSource P k).val := by
  cases bank : reqBank idx with
  | none => exact .inl ⟨_, request_of_none lv s bank⟩
  | some b =>
    by_cases driven : isTcuDriven P idx = true
    · exact .inr ((isTcuDriven_iff P idx).mp driven)
    · exact .inl ⟨_, request_of_free lv s bank driven⟩

/-- The operations that the spec gives no meaning (R78 a, b) are the only ones whose effect is to be refused. -/
theorem eq_reservedEvent_or_notThisBlock_of_effect {i : Instr} {r : Refusal} (h : effect i = .refuse r) :
    (∃ ek p, i = .reservedEvent ek p) ∨ ∃ acc sz u off, i = .notThisBlock acc sz u off := by
  cases i with
  | reservedEvent ek p => exact .inl ⟨ek, p, rfl⟩
  | notThisBlock acc sz u off => exact .inr ⟨acc, sz, u, off, rfl⟩
  | intcUnsupported acc | tcuUnsupported acc | intcReserved14 acc | intcReserved18 acc
  | intcReserved1c acc | intcBankRange acc | tcuReserved acc => cases acc <;> cases h
  | _ => cases h

/-- Settles O31: of the eleven effects, two can stop: `refuse`, which only the two rows without a meaning
have, and `request`. -/
theorem everyOtherOperationCompletes : Obligations.EveryOtherOperationCompletes := by
  intro i s
  rw [exec_eq_run]
  cases e : effect i with
  | refuse r => exact .inr ((eq_reservedEvent_or_notThisBlock_of_effect e).imp_right .inl)
  | request lv idx =>
    have isReq : i = .req lv idx := eq_of_intcOperation i _ (by rw [e]; rfl)
    obtain completes | ⟨k, driven⟩ := request_completes_or_driven Config.params lv idx s
    · exact .inl completes
    · exact .inr (.inr (.inr ⟨lv, idx, k, isReq, driven⟩))
  | tick | reset | read | drop | emit | logCgu | intcMask | channel | word => exact .inl ⟨_, rfl⟩

/-! From a flag to bank 0's output (R204) -/

/-- First stage: a line is the OR of its unmasked flag bits (R37). -/
theorem lineOf_iff_of_linesFollowFlags {s : State} (h : LinesFollowFlags s) (k : Line) :
    s.lineOf k = true ↔
      ∃ n, (lineBits k).getLsbD n = true ∧ (s.flag &&& ~~~s.mask).getLsbD n = true := by
  rw [← and_ne_zero_iff]
  obtain ⟨l0, l1, l2⟩ := h
  cases k with
  | l0 => exact l0
  | l1 => exact l1
  | l2 => exact l2

/-- Second stage: a line is wired to its bank-0 input (R37). -/
theorem getLsbD_lineSource_of_inputsFollowLines {P : Params} {s : State} (h : InputsFollowLines P s)
    (k : Line) : s.intc.b0.source.getLsbD (lineSource P k).val = s.lineOf k := by
  obtain ⟨w0, w1, w2⟩ := h
  cases k with
  | l0 => exact w0
  | l1 => exact w1
  | l2 => exact w2

/-- Third stage: a bank's output is the OR of its unmasked inputs (R26). -/
theorem irqOut_iff_of_intcConsistent {s : State} (h : IntcConsistent s) (b : Bank) :
    (s.bank b).irqOut = true ↔
      ∃ j, (s.bank b).source.getLsbD j = true ∧ (s.bank b).mask.getLsbD j = false := by
  rw [← irqOut_bankOf_iff, ← bank_eq_bankOf h b]

/-- Settles O37: the three stages one after the other. -/
theorem unmaskedFlagReachesTheProcessorLine : Obligations.UnmaskedFlagReachesTheProcessorLine := by
  intro s k n inv onLine flag unmasked inputUnmasked
  have request : (s.flag &&& ~~~s.mask).getLsbD n = true := by
    simp only [BitVec.getLsbD_and, BitVec.getLsbD_not, flag, unmasked, BitVec.lt_of_getLsbD flag,
      decide_true, Bool.not_false, Bool.and_self]
  have line : s.lineOf k = true := (lineOf_iff_of_linesFollowFlags inv.lines k).mpr ⟨n, onLine, request⟩
  have source : s.intc.b0.source.getLsbD (lineSource Config.params k).val = true :=
    (getLsbD_lineSource_of_inputsFollowLines inv.wires k).trans line
  exact (irqOut_iff_of_intcConsistent inv.intc .b0).mpr ⟨_, source, inputUnmasked⟩

end Sys2Proof.Proofs
end

section
/-! SUPPORT. The statements of 70_reset_and_hazards.md: what RESET leaves, and that every step keeps the
invariant. The INTC's part of it is `intcConsistent_run`; here are the part of the lines with their inputs and
the part of the channels' records. -/
namespace Sys2Proof.Proofs
open Sys2Proof.Machine Sys2Proof.Safety

/-! RESET (R230) -/

theorem bank_resetRegisters (s : State) (b : Bank) : (resetRegisters s).bank b = IntcBank.reset := by
  cases b <;> rfl

theorem chan_resetRegisters (s : State) (c : Chan) : (resetRegisters s).chan c = (s.chan c).clear := by
  cases c <;> rfl

/-- Settles O14: the banks and the records by the two lemmas above, the other fields as RESET writes them. -/
theorem resetResult : Obligations.ResetResult := fun s =>
  ⟨resetRegisters s, exec_eq_run .reset s, bank_resetRegisters s, chan_resetRegisters s,
    rfl, rfl, rfl, rfl, rfl, rfl, rfl, rfl, rfl⟩

/-! The lines and their inputs (R37) -/

/-- The two halves of R37: the lines follow the flags, and the wired inputs follow the lines. -/
structure LinesInForce (P : Params) (s : State) : Prop where
  lines : LinesFollowFlags s
  wires : InputsFollowLines P s

/-- A line recompute establishes R37, whatever the state was before. -/
theorem linesInForce_linesRecompute {P : Params} (hP : P.Ok) (s : State) :
    LinesInForce P (linesRecompute P s) := by
  rw [linesRecompute_eq]
  exact ⟨⟨decide_eq_true_iff, decide_eq_true_iff, decide_eq_true_iff⟩, withLines_wires P s hP⟩

/-- R37 is about the flags, their mask, the lines and the three wired inputs alone. -/
theorem LinesInForce.congr {P : Params} {s t : State} (h : LinesInForce P s) (flag : t.flag = s.flag)
    (mask : t.mask = s.mask) (line : t.line = s.line)
    (source : ∀ k, (t.bank .b0).source.getLsbD (lineSource P k).val =
      (s.bank .b0).source.getLsbD (lineSource P k).val) : LinesInForce P t where
  lines := by
    unfold LinesFollowFlags
    rw [flag, mask, line]
    exact h.lines
  wires := by
    obtain ⟨w0, w1, w2⟩ := h.wires
    unfold InputsFollowLines
    rw [line]
    exact ⟨(source .l0).trans w0, (source .l1).trans w1, (source .l2).trans w2⟩

/-- A drive of one input leaves the level of every other. -/
theorem getLsbD_source_intcDrive {b d : Bank} {i j : Fin 32} (other : d = b → j.val ≠ i.val) (lv : Bool)
    (s : State) :
    ((intcDrive b i lv s).bank d).source.getLsbD j.val = (s.bank d).source.getLsbD j.val := by
  by_cases h : d = b
  · subst h
    rw [intcDrive_eq, bank_setBank_same]
    exact (withBit_getLsbD _ _ _ _ j.isLt).trans (if_neg (other rfl))
  · rw [bank_intcDrive_ne h]

theorem source_intcMaskWrite (op : BitsetOp) (b d : Bank) (v : Word) (s : State) :
    ((intcMaskWrite op b v s).bank d).source = (s.bank d).source := by
  by_cases h : d = b
  · subst h
    rw [intcMaskWrite_eq, bank_setBank_same]
    rfl
  · rw [bank_intcMaskWrite_ne h]

/-- An index in bank 0 is its own bit. -/
theorem reqBit_val_of_b0 {idx : BitVec 8} (h : reqBank idx = some .b0) : (reqBit idx).val = idx.toNat := by
  have range : idx.toNat / 32 = 0 := (reqBank_eq_some_iff idx .b0).mp h
  exact Nat.mod_eq_of_lt (by omega)

/-- A request that drives an input of bank 0 drives none that a TCU line is wired to (R101 c). -/
theorem lineSource_ne_reqBit {P : Params} {lv : Bool} {idx : BitVec 8} {s t : State}
    (h : request P lv idx s = .next t) (bank : reqBank idx = some .b0) (k : Line) :
    (lineSource P k).val ≠ (reqBit idx).val := by
  intro same
  have driven : isTcuDriven P idx = true :=
    (isTcuDriven_iff P idx).mpr ⟨k, (same.trans (reqBit_val_of_b0 bank)).symm⟩
  rw [request_of_driven lv s bank driven] at h
  cases h

/-- After RESET no flag is set, every line is low and every input is low. -/
theorem linesInForce_resetRegisters (P : Params) (s : State) : LinesInForce P (resetRegisters s) where
  lines := by simp [LinesFollowFlags, resetRegisters]
  wires := by simp [InputsFollowLines, resetRegisters, IntcBank.reset]

/-- Every effect keeps R37: those that write a flag, the mask or a channel end in a line recompute. -/
theorem linesInForce_run {e : Effect} {s t : State} (hs : LinesInForce Config.params s)
    (h : e.run s = .next t) : LinesInForce Config.params t := by
  cases e with
  | tick c =>
    cases h
    rw [tick_eq_channelWrite]
    exact linesInForce_linesRecompute params_ok _
  | request lv idx =>
    obtain ⟨-, rfl⟩ | ⟨b, bank, rfl⟩ := request_eq_next h
    · exact hs.congr rfl rfl rfl fun _ => rfl
    · refine hs.congr rfl rfl rfl fun k => getLsbD_source_intcDrive (fun b0 => ?_) lv s
      exact lineSource_ne_reqBit h (b0 ▸ bank) k
  | reset => cases h; exact linesInForce_resetRegisters _ s
  | refuse r => cases h
  | read r => cases h; cases r <;> exact hs.congr rfl rfl rfl fun _ => rfl
  | drop => cases h; exact hs
  | emit d => cases h; exact hs.congr rfl rfl rfl fun _ => rfl
  | logCgu a => cases h; exact hs.congr rfl rfl rfl fun _ => rfl
  | intcMask op b v =>
    cases h
    exact hs.congr rfl rfl rfl fun k => by rw [source_intcMaskWrite]
  | channel c f v => cases h; exact linesInForce_linesRecompute params_ok _
  | word w op v => cases h; exact linesInForce_linesRecompute params_ok _

/-! The channels' records (R29, R30, R38, R191) -/

/-- What a write of a channel's register and a tick keep of its record, before the reload: 16-bit thresholds
and a scheduled tick (R29, R30, R38). -/
structure Storable (r : Channel) : Prop where
  full : r.full ≤ 0x0000FFFF#32
  half : r.half ≤ 0x0000FFFF#32
  armed : r.tickArmed = true

/-- What the invariant says of one channel's record. -/
structure RecordOk (r : Channel) : Prop extends Storable r where
  count : r.count = 0#32 ∨ r.count < r.full

/-- The data of a threshold write fits 16 bits (R75). -/
theorem thresholdData_le (v : Word) : thresholdData v ≤ 0x0000FFFF#32 := by
  have bound : v.toNat &&& 0xFFFF ≤ 0xFFFF := Nat.and_le_right
  rw [thresholdData, BitVec.le_def, BitVec.toNat_and]
  exact bound

theorem storable_write {r : Channel} (h : Storable r) (f : ChanField) (v : Word) : Storable (f.write v r) := by
  cases f with
  | full => exact ⟨thresholdData_le v, h.half, h.armed⟩
  | half => exact ⟨h.full, thresholdData_le v, h.armed⟩
  | count | ctrl => exact ⟨h.full, h.half, h.armed⟩

theorem storable_tickRecord {r : Channel} (h : Storable r) (P : Params) (enabled : Bool) :
    Storable (tickRecord P enabled r) := ⟨h.full, h.half, rfl⟩

/-- The reload brings the count below `full`, whatever it was (R180). -/
theorem recordOk_autoReload {r : Channel} (h : Storable r) : RecordOk (autoReload r) := by
  unfold autoReload
  split
  · exact ⟨⟨h.full, h.half, h.armed⟩, .inl rfl⟩
  · next below => exact ⟨h, .inr (BitVec.not_le.mp below)⟩

theorem recordOk_clear {r : Channel} (armed : r.tickArmed = true) : RecordOk r.clear :=
  ⟨⟨Nat.zero_le _, Nat.zero_le _, armed⟩, .inl rfl⟩

theorem chan_channelWrite_same (P : Params) (c : Chan) (f : Channel → Channel) (s : State) :
    (channelWrite P c f s).chan c = autoReload (f (s.chan c)) := by
  rw [channelWrite, chan_congr _ _ c (linesRecompute_ch P _), chan_chanRecompute_same, chan_setChan_same]

theorem chan_channelWrite_ne (P : Params) {c d : Chan} (h : d ≠ c) (f : Channel → Channel) (s : State) :
    (channelWrite P c f s).chan d = s.chan d :=
  (chan_congr _ _ d (linesRecompute_ch P _)).trans (chan_updateChan_ne c d f s h)

/-- A channel write of a storable record leaves every record in order. -/
theorem recordOk_channelWrite {s : State} (hs : ∀ c, RecordOk (s.chan c)) (P : Params) {c : Chan}
    {f : Channel → Channel} (stored : Storable (f (s.chan c))) (d : Chan) :
    RecordOk ((channelWrite P c f s).chan d) := by
  by_cases h : d = c
  · subst h
    rw [chan_channelWrite_same]
    exact recordOk_autoReload stored
  · rw [chan_channelWrite_ne P h]
    exact hs d

/-- With every count below `full`, the recomputes of a global write reload no channel. -/
theorem globalWrite_ch {s : State} (h : CountsBelowFull s) (P : Params) (w : GlobalWord) (op : BitsetOp)
    (v : Word) : (globalWrite P w op v s).ch = s.ch := by
  obtain ⟨x, onlyFlags⟩ := recomputeList_of_countsBelowFull Chan.all h
  have stored : (s.setWord w (op.apply (s.word w) v)).ch = s.ch := setWord_ch ..
  rw [globalWrite, linesRecompute_ch, recomputeAll, onlyFlags _ stored, setWord_ch, stored]

/-- Every effect keeps every channel's record in order. -/
theorem recordOk_run {e : Effect} {s t : State} (hs : ∀ c, RecordOk (s.chan c)) (h : e.run s = .next t)
    (c : Chan) : RecordOk (t.chan c) := by
  have same {u : State} (hch : u.ch = s.ch) : RecordOk (u.chan c) := chan_congr u s c hch ▸ hs c
  cases e with
  | tick d =>
    cases h
    rw [tick_eq_channelWrite]
    exact recordOk_channelWrite hs _ (storable_tickRecord (hs d).toStorable _ _) c
  | request lv idx => obtain ⟨-, rfl⟩ | ⟨b, -, rfl⟩ := request_eq_next h <;> exact same rfl
  | reset => cases h; rw [chan_resetRegisters]; exact recordOk_clear (hs c).armed
  | refuse r => cases h
  | read r => cases h; cases r <;> exact same rfl
  | drop | emit | logCgu | intcMask => cases h; exact same rfl
  | channel d f v =>
    cases h
    exact recordOk_channelWrite hs _ (storable_write (hs d).toStorable f v) c
  | word w op v => cases h; exact same (globalWrite_ch (fun d => (hs d).count) _ w op v)

/-! The invariant (R233) -/

/-- The invariant's parts: the banks, the lines with their inputs, and the channels' records. -/
theorem inv_iff (s : State) :
    Inv s ↔ IntcConsistent s ∧ LinesInForce Config.params s ∧ ∀ c, RecordOk (s.chan c) := by
  constructor
  · intro h
    refine ⟨h.intc, ⟨h.lines, h.wires⟩, fun c => ?_⟩
    obtain ⟨full, half⟩ := h.thresholds c
    exact ⟨⟨full, half, h.ticks c⟩, h.counts c⟩
  · rintro ⟨intc, ⟨lines, wires⟩, records⟩
    exact ⟨intc, lines, wires, fun c => (records c).count, fun c => ⟨(records c).full, (records c).half⟩,
      fun c => (records c).armed⟩

/-- RESET establishes the invariant in every state whose ticks are scheduled. -/
theorem inv_resetRegisters {s : State} (h : TicksScheduled s) : Inv (resetRegisters s) :=
  (inv_iff _).mpr ⟨intcConsistent_of_reset (bank_resetRegisters s), linesInForce_resetRegisters _ s,
    fun c => chan_resetRegisters s c ▸ recordOk_clear (h c)⟩

theorem inv_run {e : Effect} {s t : State} (hs : Inv s) (h : e.run s = .next t) : Inv t := by
  obtain ⟨intc, lines, records⟩ := (inv_iff s).mp hs
  exact (inv_iff t).mpr ⟨intcConsistent_run intc h, linesInForce_run lines h, recordOk_run records h⟩

/-- The invariant says nothing of the operations that wait. -/
theorem inv_withInputs {s : State} (h : Inv s) (ops : List Operation) : Inv { s with inputs := ops } :=
  ⟨h.intc, h.lines, h.wires, h.counts, h.thresholds, h.ticks⟩

/-- Settles O32: the state after reset is what RESET makes of itself, and its ticks are scheduled. -/
theorem resetStateMeetsTheInvariant : Obligations.ResetStateMeetsTheInvariant := by
  have scheduled : TicksScheduled State.reset := fun c => by cases c <;> rfl
  exact inv_resetRegisters scheduled

/-- Settles O33: without an arrival nothing changes, and an operation that has arrived has one of the eleven
effects (`inv_run`). -/
theorem everyStepKeepsTheInvariant : Obligations.EveryStepKeepsTheInvariant := by
  intro s t hs h
  cases arrived : s.inputs with
  | nil =>
    have idle : step s = .next s := by rw [step, fetch, arrived]
    rw [idle] at h
    cases h
    exact hs
  | cons op rest =>
    rw [stepRunsTheDecodedOperation s op rest arrived, exec_eq_run] at h
    exact inv_run (inv_withInputs hs rest) h

end Sys2Proof.Proofs
end

section
/-! SUPPORT. The two forms of a step: with a word of the opcode table placed as the next operation (log
entries 1 and 3), and with no operation waiting (log entry 2). -/
namespace Sys2Proof.Proofs
open Sys2Proof.Machine

/-- A table word decodes to what the operation read from it decodes to. -/
theorem decodeTableWord_eq_some_iff (nbits w : Nat) (i : Instr) :
    decodeTableWord nbits w = some i ↔ ∃ op, readTableWord nbits w = .ok op ∧ decode op = i := by
  cases h : readTableWord nbits w <;> simp [decodeTableWord, h]

theorem withFetchWord_of_read {nbits w : Nat} {op : Operation} (s : State)
    (h : readTableWord nbits w = .ok op) :
    s.withFetchWord nbits w = { s with inputs := op :: s.inputs } := by
  rw [State.withFetchWord, h]

/-- Settles O8: the placed word's operation is the oldest to have arrived, so the step takes it from the list
(`stepRunsTheDecodedOperation`), which leaves the state in which it was placed. -/
theorem stepRunsThePlacedWord : Obligations.StepRunsThePlacedWord := by
  intro s nbits w i h
  obtain ⟨op, read, rfl⟩ := (decodeTableWord_eq_some_iff nbits w i).mp h
  rw [withFetchWord_of_read s read]
  exact stepRunsTheDecodedOperation _ op s.inputs rfl

/-- Settles O9: the fetch finds no operation. -/
theorem stepWithoutOperationIsIdle : Obligations.StepWithoutOperationIsIdle := by
  intro s h
  have nothingFetched : fetch s = none := by rw [fetch, h]
  rw [step, nothingFetched]

end Sys2Proof.Proofs
end
